-- ==== Sys2Proof/Word.lean ====
section
/-! DEFINITION. The words of the bytecode dispatch engine (spec/00_scope.md R7 to R15): a byte and a code unit of the
instruction stream, the 32-bit and 64-bit views of a register slot, and the reference handle. -/

namespace Sys2Proof

/-- A byte of the instruction stream (R83). -/
abbrev Byte := BitVec 8

/-- A code unit: one 16-bit word of the instruction stream (R7 CU_BITS, R120). -/
abbrev CodeUnit := BitVec 16

/-- The narrow numeric view of a register slot: an int pattern, or the 32 bits of a float (R7 NUM_BITS). -/
abbrev Word32 := BitVec 32

/-- A 64-bit pattern: a slot's storage word (R7 SLOT_BITS), a long, or the 64 bits of a double. -/
abbrev Word64 := BitVec 64

/-- A reference handle (R7 HANDLE_BITS, R34): opaque to the engine, chosen by the host object system. -/
abbrev Handle := BitVec 64

/-- The null reference NULL (R15, R34). -/
def null : Handle := 0#64

end Sys2Proof
end

