-- ==== Sys2Proof/Syntax.lean ====
section
/-! DEFINITION. The instructions of the bytecode dispatch engine: one constructor per row of the opcode map
(spec/30_encoding.md R127), in the map's order, with the operand fields of the row's format (R135 to R158) as bit
vectors. The 38 unassigned opcodes (R128) are instructions of their own: each selects the trap handler. A `/` of a
mnemonic is written `_` in spec/opcode_table.json. -/

namespace Sys2Proof

/-- An instruction. A register field names a register by its index; a literal, offset or pool index is the field's raw
bits, read as signed or unsigned by the handler (R159). -/
inductive Instr where
  /-- `nop`, opcode 0x00, format 10x (R201). -/
  | nop
  /-- `move vA, vB`, opcode 0x01, format 12x (R202). -/
  | move (a b : BitVec 4)
  /-- `move/from16 vAA, vBBBB`, opcode 0x02, format 22x (R203). -/
  | moveFrom16 (aa : BitVec 8) (bbbb : BitVec 16)
  /-- `move/16 vAAAA, vBBBB`, opcode 0x03, format 32x (R204). -/
  | move16 (aaaa bbbb : BitVec 16)
  /-- `move-wide vA, vB`, opcode 0x04, format 12x (R205). -/
  | moveWide (a b : BitVec 4)
  /-- `move-wide/from16 vAA, vBBBB`, opcode 0x05, format 22x (R206). -/
  | moveWideFrom16 (aa : BitVec 8) (bbbb : BitVec 16)
  /-- `move-wide/16 vAAAA, vBBBB`, opcode 0x06, format 32x (R207). -/
  | moveWide16 (aaaa bbbb : BitVec 16)
  /-- `move-object vA, vB`, opcode 0x07, format 12x (R208). -/
  | moveObject (a b : BitVec 4)
  /-- `move-object/from16 vAA, vBBBB`, opcode 0x08, format 22x (R209). -/
  | moveObjectFrom16 (aa : BitVec 8) (bbbb : BitVec 16)
  /-- `move-object/16 vAAAA, vBBBB`, opcode 0x09, format 32x (R210). -/
  | moveObject16 (aaaa bbbb : BitVec 16)
  /-- `move-result vAA`, opcode 0x0a, format 11x (R213). -/
  | moveResult (aa : BitVec 8)
  /-- `move-result-wide vAA`, opcode 0x0b, format 11x (R214). -/
  | moveResultWide (aa : BitVec 8)
  /-- `move-result-object vAA`, opcode 0x0c, format 11x (R215). -/
  | moveResultObject (aa : BitVec 8)
  /-- `move-exception vAA`, opcode 0x0d, format 11x (R216). -/
  | moveException (aa : BitVec 8)
  /-- `return-void`, opcode 0x0e, format 10x (R442). -/
  | returnVoid
  /-- `return vAA`, opcode 0x0f, format 11x (R443). -/
  | returnVal (aa : BitVec 8)
  /-- `return-wide vAA`, opcode 0x10, format 11x (R444). -/
  | returnWide (aa : BitVec 8)
  /-- `return-object vAA`, opcode 0x11, format 11x (R445). -/
  | returnObject (aa : BitVec 8)
  /-- `const/4 vA, #+B`, opcode 0x12, format 11n (R217). -/
  | const4 (a b : BitVec 4)
  /-- `const/16 vAA, #+BBBB`, opcode 0x13, format 21s (R218). -/
  | const16 (aa : BitVec 8) (bbbb : BitVec 16)
  /-- `const vAA, #+BBBBBBBB`, opcode 0x14, format 31i (R219). -/
  | const32 (aa : BitVec 8) (lit : BitVec 32)
  /-- `const/high16 vAA, #+BBBB at the top`, opcode 0x15, format 21h (R220). -/
  | constHigh16 (aa : BitVec 8) (bbbb : BitVec 16)
  /-- `const-wide/16 vAA, #+BBBB`, opcode 0x16, format 21s (R221). -/
  | constWide16 (aa : BitVec 8) (bbbb : BitVec 16)
  /-- `const-wide/32 vAA, #+BBBBBBBB`, opcode 0x17, format 31i (R222). -/
  | constWide32 (aa : BitVec 8) (lit : BitVec 32)
  /-- `const-wide vAA, #+BBBBBBBBBBBBBBBB`, opcode 0x18, format 51l (R223). -/
  | constWide (aa : BitVec 8) (lit : BitVec 64)
  /-- `const-wide/high16 vAA, #+BBBB at the top`, opcode 0x19, format 21h (R224). -/
  | constWideHigh16 (aa : BitVec 8) (bbbb : BitVec 16)
  /-- `const-string vAA, pool@BBBB`, opcode 0x1a, format 21c (R225). -/
  | constString (aa : BitVec 8) (bbbb : BitVec 16)
  /-- `const-string/jumbo vAA, string@BBBBBBBB`, opcode 0x1b, format 31c (R226). -/
  | constStringJumbo (aa : BitVec 8) (idx : BitVec 32)
  /-- `const-class vAA, pool@BBBB`, opcode 0x1c, format 21c (R227). -/
  | constClass (aa : BitVec 8) (bbbb : BitVec 16)
  /-- `monitor-enter vAA`, opcode 0x1d, format 11x (R456). -/
  | monitorEnter (aa : BitVec 8)
  /-- `monitor-exit vAA`, opcode 0x1e, format 11x (R457). -/
  | monitorExit (aa : BitVec 8)
  /-- `check-cast vAA, pool@BBBB`, opcode 0x1f, format 21c (R474). -/
  | checkCast (aa : BitVec 8) (bbbb : BitVec 16)
  /-- `instance-of vA, vB, pool@CCCC`, opcode 0x20, format 22c (R475). -/
  | instanceOf (a b : BitVec 4) (cccc : BitVec 16)
  /-- `array-length vA, vB`, opcode 0x21, format 12x (R471). -/
  | arrayLength (a b : BitVec 4)
  /-- `new-instance vAA, pool@BBBB`, opcode 0x22, format 21c (R472). -/
  | newInstance (aa : BitVec 8) (bbbb : BitVec 16)
  /-- `new-array vA, vB, pool@CCCC`, opcode 0x23, format 22c (R473). -/
  | newArray (a b : BitVec 4) (cccc : BitVec 16)
  /-- `filled-new-array (A words of vC, vD, vE, vF, vG), pool@BBBB`, opcode 0x24, format 35c (R480). -/
  | filledNewArray (a : BitVec 4) (bbbb : BitVec 16) (c d e f g : BitVec 4)
  /-- `filled-new-array/range (AA words from vCCCC), pool@BBBB`, opcode 0x25, format 3rc (R481). -/
  | filledNewArrayRange (aa : BitVec 8) (bbbb cccc : BitVec 16)
  /-- `fill-array-data vAA, +BBBBBBBB`, opcode 0x26, format 31t (R477). -/
  | fillArrayData (aa : BitVec 8) (off : BitVec 32)
  /-- `throw vAA`, opcode 0x27, format 11x (R441). -/
  | throwObj (aa : BitVec 8)
  /-- `goto +AA`, opcode 0x28, format 10t (R421). -/
  | goto (aa : BitVec 8)
  /-- `goto/16 +AAAA`, opcode 0x29, format 20t (R422). -/
  | goto16 (aaaa : BitVec 16)
  /-- `goto/32 +AAAAAAAA`, opcode 0x2a, format 30t (R423). -/
  | goto32 (off : BitVec 32)
  /-- `packed-switch vAA, +BBBBBBBB`, opcode 0x2b, format 31t (R438). -/
  | packedSwitch (aa : BitVec 8) (off : BitVec 32)
  /-- `sparse-switch vAA, +BBBBBBBB`, opcode 0x2c, format 31t (R440). -/
  | sparseSwitch (aa : BitVec 8) (off : BitVec 32)
  /-- `cmpl-float vAA, vBB, vCC`, opcode 0x2d, format 23x (R360). -/
  | cmplFloat (aa bb cc : BitVec 8)
  /-- `cmpg-float vAA, vBB, vCC`, opcode 0x2e, format 23x (R361). -/
  | cmpgFloat (aa bb cc : BitVec 8)
  /-- `cmpl-double vAA, vBB, vCC`, opcode 0x2f, format 23x (R362). -/
  | cmplDouble (aa bb cc : BitVec 8)
  /-- `cmpg-double vAA, vBB, vCC`, opcode 0x30, format 23x (R363). -/
  | cmpgDouble (aa bb cc : BitVec 8)
  /-- `cmp-long vAA, vBB, vCC`, opcode 0x31, format 23x (R259). -/
  | cmpLong (aa bb cc : BitVec 8)
  /-- `if-eq vA, vB, +CCCC`, opcode 0x32, format 22t (R425). -/
  | ifEq (a b : BitVec 4) (cccc : BitVec 16)
  /-- `if-ne vA, vB, +CCCC`, opcode 0x33, format 22t (R426). -/
  | ifNe (a b : BitVec 4) (cccc : BitVec 16)
  /-- `if-lt vA, vB, +CCCC`, opcode 0x34, format 22t (R427). -/
  | ifLt (a b : BitVec 4) (cccc : BitVec 16)
  /-- `if-ge vA, vB, +CCCC`, opcode 0x35, format 22t (R428). -/
  | ifGe (a b : BitVec 4) (cccc : BitVec 16)
  /-- `if-gt vA, vB, +CCCC`, opcode 0x36, format 22t (R429). -/
  | ifGt (a b : BitVec 4) (cccc : BitVec 16)
  /-- `if-le vA, vB, +CCCC`, opcode 0x37, format 22t (R430). -/
  | ifLe (a b : BitVec 4) (cccc : BitVec 16)
  /-- `if-eqz vAA, +BBBB`, opcode 0x38, format 21t (R431). -/
  | ifEqz (aa : BitVec 8) (bbbb : BitVec 16)
  /-- `if-nez vAA, +BBBB`, opcode 0x39, format 21t (R432). -/
  | ifNez (aa : BitVec 8) (bbbb : BitVec 16)
  /-- `if-ltz vAA, +BBBB`, opcode 0x3a, format 21t (R433). -/
  | ifLtz (aa : BitVec 8) (bbbb : BitVec 16)
  /-- `if-gez vAA, +BBBB`, opcode 0x3b, format 21t (R434). -/
  | ifGez (aa : BitVec 8) (bbbb : BitVec 16)
  /-- `if-gtz vAA, +BBBB`, opcode 0x3c, format 21t (R435). -/
  | ifGtz (aa : BitVec 8) (bbbb : BitVec 16)
  /-- `if-lez vAA, +BBBB`, opcode 0x3d, format 21t (R436). -/
  | ifLez (aa : BitVec 8) (bbbb : BitVec 16)
  /-- unassigned opcode 0x3e: the unknown-opcode trap (R128). -/
  | unused3e
  /-- unassigned opcode 0x3f: the unknown-opcode trap (R128). -/
  | unused3f
  /-- unassigned opcode 0x40: the unknown-opcode trap (R128). -/
  | unused40
  /-- unassigned opcode 0x41: the unknown-opcode trap (R128). -/
  | unused41
  /-- unassigned opcode 0x42: the unknown-opcode trap (R128). -/
  | unused42
  /-- unassigned opcode 0x43: the unknown-opcode trap (R128). -/
  | unused43
  /-- `aget vAA, vBB, vCC`, opcode 0x44, format 23x (R483). -/
  | aget (aa bb cc : BitVec 8)
  /-- `aget-wide vAA, vBB, vCC`, opcode 0x45, format 23x (R484). -/
  | agetWide (aa bb cc : BitVec 8)
  /-- `aget-object vAA, vBB, vCC`, opcode 0x46, format 23x (R485). -/
  | agetObject (aa bb cc : BitVec 8)
  /-- `aget-boolean vAA, vBB, vCC`, opcode 0x47, format 23x (R486). -/
  | agetBoolean (aa bb cc : BitVec 8)
  /-- `aget-byte vAA, vBB, vCC`, opcode 0x48, format 23x (R487). -/
  | agetByte (aa bb cc : BitVec 8)
  /-- `aget-char vAA, vBB, vCC`, opcode 0x49, format 23x (R488). -/
  | agetChar (aa bb cc : BitVec 8)
  /-- `aget-short vAA, vBB, vCC`, opcode 0x4a, format 23x (R489). -/
  | agetShort (aa bb cc : BitVec 8)
  /-- `aput vAA, vBB, vCC`, opcode 0x4b, format 23x (R491). -/
  | aput (aa bb cc : BitVec 8)
  /-- `aput-wide vAA, vBB, vCC`, opcode 0x4c, format 23x (R492). -/
  | aputWide (aa bb cc : BitVec 8)
  /-- `aput-object vAA, vBB, vCC`, opcode 0x4d, format 23x (R493). -/
  | aputObject (aa bb cc : BitVec 8)
  /-- `aput-boolean vAA, vBB, vCC`, opcode 0x4e, format 23x (R494). -/
  | aputBoolean (aa bb cc : BitVec 8)
  /-- `aput-byte vAA, vBB, vCC`, opcode 0x4f, format 23x (R495). -/
  | aputByte (aa bb cc : BitVec 8)
  /-- `aput-char vAA, vBB, vCC`, opcode 0x50, format 23x (R496). -/
  | aputChar (aa bb cc : BitVec 8)
  /-- `aput-short vAA, vBB, vCC`, opcode 0x51, format 23x (R497). -/
  | aputShort (aa bb cc : BitVec 8)
  /-- `iget vA, vB, pool@CCCC`, opcode 0x52, format 22c (R499). -/
  | iget (a b : BitVec 4) (cccc : BitVec 16)
  /-- `iget-wide vA, vB, pool@CCCC`, opcode 0x53, format 22c (R500). -/
  | igetWide (a b : BitVec 4) (cccc : BitVec 16)
  /-- `iget-object vA, vB, pool@CCCC`, opcode 0x54, format 22c (R501). -/
  | igetObject (a b : BitVec 4) (cccc : BitVec 16)
  /-- `iget-boolean vA, vB, pool@CCCC`, opcode 0x55, format 22c (R502). -/
  | igetBoolean (a b : BitVec 4) (cccc : BitVec 16)
  /-- `iget-byte vA, vB, pool@CCCC`, opcode 0x56, format 22c (R503). -/
  | igetByte (a b : BitVec 4) (cccc : BitVec 16)
  /-- `iget-char vA, vB, pool@CCCC`, opcode 0x57, format 22c (R504). -/
  | igetChar (a b : BitVec 4) (cccc : BitVec 16)
  /-- `iget-short vA, vB, pool@CCCC`, opcode 0x58, format 22c (R505). -/
  | igetShort (a b : BitVec 4) (cccc : BitVec 16)
  /-- `iput vA, vB, pool@CCCC`, opcode 0x59, format 22c (R507). -/
  | iput (a b : BitVec 4) (cccc : BitVec 16)
  /-- `iput-wide vA, vB, pool@CCCC`, opcode 0x5a, format 22c (R508). -/
  | iputWide (a b : BitVec 4) (cccc : BitVec 16)
  /-- `iput-object vA, vB, pool@CCCC`, opcode 0x5b, format 22c (R509). -/
  | iputObject (a b : BitVec 4) (cccc : BitVec 16)
  /-- `iput-boolean vA, vB, pool@CCCC`, opcode 0x5c, format 22c (R510). -/
  | iputBoolean (a b : BitVec 4) (cccc : BitVec 16)
  /-- `iput-byte vA, vB, pool@CCCC`, opcode 0x5d, format 22c (R511). -/
  | iputByte (a b : BitVec 4) (cccc : BitVec 16)
  /-- `iput-char vA, vB, pool@CCCC`, opcode 0x5e, format 22c (R512). -/
  | iputChar (a b : BitVec 4) (cccc : BitVec 16)
  /-- `iput-short vA, vB, pool@CCCC`, opcode 0x5f, format 22c (R513). -/
  | iputShort (a b : BitVec 4) (cccc : BitVec 16)
  /-- `sget vAA, pool@BBBB`, opcode 0x60, format 21c (R515). -/
  | sget (aa : BitVec 8) (bbbb : BitVec 16)
  /-- `sget-wide vAA, pool@BBBB`, opcode 0x61, format 21c (R516). -/
  | sgetWide (aa : BitVec 8) (bbbb : BitVec 16)
  /-- `sget-object vAA, pool@BBBB`, opcode 0x62, format 21c (R517). -/
  | sgetObject (aa : BitVec 8) (bbbb : BitVec 16)
  /-- `sget-boolean vAA, pool@BBBB`, opcode 0x63, format 21c (R518). -/
  | sgetBoolean (aa : BitVec 8) (bbbb : BitVec 16)
  /-- `sget-byte vAA, pool@BBBB`, opcode 0x64, format 21c (R519). -/
  | sgetByte (aa : BitVec 8) (bbbb : BitVec 16)
  /-- `sget-char vAA, pool@BBBB`, opcode 0x65, format 21c (R520). -/
  | sgetChar (aa : BitVec 8) (bbbb : BitVec 16)
  /-- `sget-short vAA, pool@BBBB`, opcode 0x66, format 21c (R521). -/
  | sgetShort (aa : BitVec 8) (bbbb : BitVec 16)
  /-- `sput vAA, pool@BBBB`, opcode 0x67, format 21c (R523). -/
  | sput (aa : BitVec 8) (bbbb : BitVec 16)
  /-- `sput-wide vAA, pool@BBBB`, opcode 0x68, format 21c (R524). -/
  | sputWide (aa : BitVec 8) (bbbb : BitVec 16)
  /-- `sput-object vAA, pool@BBBB`, opcode 0x69, format 21c (R525). -/
  | sputObject (aa : BitVec 8) (bbbb : BitVec 16)
  /-- `sput-boolean vAA, pool@BBBB`, opcode 0x6a, format 21c (R526). -/
  | sputBoolean (aa : BitVec 8) (bbbb : BitVec 16)
  /-- `sput-byte vAA, pool@BBBB`, opcode 0x6b, format 21c (R527). -/
  | sputByte (aa : BitVec 8) (bbbb : BitVec 16)
  /-- `sput-char vAA, pool@BBBB`, opcode 0x6c, format 21c (R528). -/
  | sputChar (aa : BitVec 8) (bbbb : BitVec 16)
  /-- `sput-short vAA, pool@BBBB`, opcode 0x6d, format 21c (R529). -/
  | sputShort (aa : BitVec 8) (bbbb : BitVec 16)
  /-- `invoke-virtual (A words of vC, vD, vE, vF, vG), pool@BBBB`, opcode 0x6e, format 35c (R573). -/
  | invokeVirtual (a : BitVec 4) (bbbb : BitVec 16) (c d e f g : BitVec 4)
  /-- `invoke-super (A words of vC, vD, vE, vF, vG), pool@BBBB`, opcode 0x6f, format 35c (R574). -/
  | invokeSuper (a : BitVec 4) (bbbb : BitVec 16) (c d e f g : BitVec 4)
  /-- `invoke-direct (A words of vC, vD, vE, vF, vG), pool@BBBB`, opcode 0x70, format 35c (R575). -/
  | invokeDirect (a : BitVec 4) (bbbb : BitVec 16) (c d e f g : BitVec 4)
  /-- `invoke-static (A words of vC, vD, vE, vF, vG), pool@BBBB`, opcode 0x71, format 35c (R576). -/
  | invokeStatic (a : BitVec 4) (bbbb : BitVec 16) (c d e f g : BitVec 4)
  /-- `invoke-interface (A words of vC, vD, vE, vF, vG), pool@BBBB`, opcode 0x72, format 35c (R577). -/
  | invokeInterface (a : BitVec 4) (bbbb : BitVec 16) (c d e f g : BitVec 4)
  /-- unassigned opcode 0x73: the unknown-opcode trap (R128). -/
  | unused73
  /-- `invoke-virtual/range (AA words from vCCCC), pool@BBBB`, opcode 0x74, format 3rc (R578). -/
  | invokeVirtualRange (aa : BitVec 8) (bbbb cccc : BitVec 16)
  /-- `invoke-super/range (AA words from vCCCC), pool@BBBB`, opcode 0x75, format 3rc (R579). -/
  | invokeSuperRange (aa : BitVec 8) (bbbb cccc : BitVec 16)
  /-- `invoke-direct/range (AA words from vCCCC), pool@BBBB`, opcode 0x76, format 3rc (R580). -/
  | invokeDirectRange (aa : BitVec 8) (bbbb cccc : BitVec 16)
  /-- `invoke-static/range (AA words from vCCCC), pool@BBBB`, opcode 0x77, format 3rc (R581). -/
  | invokeStaticRange (aa : BitVec 8) (bbbb cccc : BitVec 16)
  /-- `invoke-interface/range (AA words from vCCCC), pool@BBBB`, opcode 0x78, format 3rc (R582). -/
  | invokeInterfaceRange (aa : BitVec 8) (bbbb cccc : BitVec 16)
  /-- unassigned opcode 0x79: the unknown-opcode trap (R128). -/
  | unused79
  /-- unassigned opcode 0x7a: the unknown-opcode trap (R128). -/
  | unused7a
  /-- `neg-int vA, vB`, opcode 0x7b, format 12x (R255). -/
  | negInt (a b : BitVec 4)
  /-- `not-int vA, vB`, opcode 0x7c, format 12x (R256). -/
  | notInt (a b : BitVec 4)
  /-- `neg-long vA, vB`, opcode 0x7d, format 12x (R257). -/
  | negLong (a b : BitVec 4)
  /-- `not-long vA, vB`, opcode 0x7e, format 12x (R258). -/
  | notLong (a b : BitVec 4)
  /-- `neg-float vA, vB`, opcode 0x7f, format 12x (R364). -/
  | negFloat (a b : BitVec 4)
  /-- `neg-double vA, vB`, opcode 0x80, format 12x (R365). -/
  | negDouble (a b : BitVec 4)
  /-- `int-to-long vA, vB`, opcode 0x81, format 12x (R370). -/
  | intToLong (a b : BitVec 4)
  /-- `int-to-float vA, vB`, opcode 0x82, format 12x (R371). -/
  | intToFloat (a b : BitVec 4)
  /-- `int-to-double vA, vB`, opcode 0x83, format 12x (R372). -/
  | intToDouble (a b : BitVec 4)
  /-- `long-to-int vA, vB`, opcode 0x84, format 12x (R373). -/
  | longToInt (a b : BitVec 4)
  /-- `long-to-float vA, vB`, opcode 0x85, format 12x (R374). -/
  | longToFloat (a b : BitVec 4)
  /-- `long-to-double vA, vB`, opcode 0x86, format 12x (R375). -/
  | longToDouble (a b : BitVec 4)
  /-- `float-to-int vA, vB`, opcode 0x87, format 12x (R376). -/
  | floatToInt (a b : BitVec 4)
  /-- `float-to-long vA, vB`, opcode 0x88, format 12x (R377). -/
  | floatToLong (a b : BitVec 4)
  /-- `float-to-double vA, vB`, opcode 0x89, format 12x (R378). -/
  | floatToDouble (a b : BitVec 4)
  /-- `double-to-int vA, vB`, opcode 0x8a, format 12x (R379). -/
  | doubleToInt (a b : BitVec 4)
  /-- `double-to-long vA, vB`, opcode 0x8b, format 12x (R380). -/
  | doubleToLong (a b : BitVec 4)
  /-- `double-to-float vA, vB`, opcode 0x8c, format 12x (R381). -/
  | doubleToFloat (a b : BitVec 4)
  /-- `int-to-byte vA, vB`, opcode 0x8d, format 12x (R382). -/
  | intToByte (a b : BitVec 4)
  /-- `int-to-char vA, vB`, opcode 0x8e, format 12x (R383). -/
  | intToChar (a b : BitVec 4)
  /-- `int-to-short vA, vB`, opcode 0x8f, format 12x (R384). -/
  | intToShort (a b : BitVec 4)
  /-- `add-int vAA, vBB, vCC`, opcode 0x90, format 23x (R260). -/
  | addInt (aa bb cc : BitVec 8)
  /-- `sub-int vAA, vBB, vCC`, opcode 0x91, format 23x (R261). -/
  | subInt (aa bb cc : BitVec 8)
  /-- `mul-int vAA, vBB, vCC`, opcode 0x92, format 23x (R262). -/
  | mulInt (aa bb cc : BitVec 8)
  /-- `div-int vAA, vBB, vCC`, opcode 0x93, format 23x (R263). -/
  | divInt (aa bb cc : BitVec 8)
  /-- `rem-int vAA, vBB, vCC`, opcode 0x94, format 23x (R264). -/
  | remInt (aa bb cc : BitVec 8)
  /-- `and-int vAA, vBB, vCC`, opcode 0x95, format 23x (R265). -/
  | andInt (aa bb cc : BitVec 8)
  /-- `or-int vAA, vBB, vCC`, opcode 0x96, format 23x (R266). -/
  | orInt (aa bb cc : BitVec 8)
  /-- `xor-int vAA, vBB, vCC`, opcode 0x97, format 23x (R267). -/
  | xorInt (aa bb cc : BitVec 8)
  /-- `shl-int vAA, vBB, vCC`, opcode 0x98, format 23x (R268). -/
  | shlInt (aa bb cc : BitVec 8)
  /-- `shr-int vAA, vBB, vCC`, opcode 0x99, format 23x (R269). -/
  | shrInt (aa bb cc : BitVec 8)
  /-- `ushr-int vAA, vBB, vCC`, opcode 0x9a, format 23x (R270). -/
  | ushrInt (aa bb cc : BitVec 8)
  /-- `add-long vAA, vBB, vCC`, opcode 0x9b, format 23x (R271). -/
  | addLong (aa bb cc : BitVec 8)
  /-- `sub-long vAA, vBB, vCC`, opcode 0x9c, format 23x (R272). -/
  | subLong (aa bb cc : BitVec 8)
  /-- `mul-long vAA, vBB, vCC`, opcode 0x9d, format 23x (R273). -/
  | mulLong (aa bb cc : BitVec 8)
  /-- `div-long vAA, vBB, vCC`, opcode 0x9e, format 23x (R274). -/
  | divLong (aa bb cc : BitVec 8)
  /-- `rem-long vAA, vBB, vCC`, opcode 0x9f, format 23x (R275). -/
  | remLong (aa bb cc : BitVec 8)
  /-- `and-long vAA, vBB, vCC`, opcode 0xa0, format 23x (R276). -/
  | andLong (aa bb cc : BitVec 8)
  /-- `or-long vAA, vBB, vCC`, opcode 0xa1, format 23x (R277). -/
  | orLong (aa bb cc : BitVec 8)
  /-- `xor-long vAA, vBB, vCC`, opcode 0xa2, format 23x (R278). -/
  | xorLong (aa bb cc : BitVec 8)
  /-- `shl-long vAA, vBB, vCC`, opcode 0xa3, format 23x (R279). -/
  | shlLong (aa bb cc : BitVec 8)
  /-- `shr-long vAA, vBB, vCC`, opcode 0xa4, format 23x (R280). -/
  | shrLong (aa bb cc : BitVec 8)
  /-- `ushr-long vAA, vBB, vCC`, opcode 0xa5, format 23x (R281). -/
  | ushrLong (aa bb cc : BitVec 8)
  /-- `add-float vAA, vBB, vCC`, opcode 0xa6, format 23x (R390). -/
  | addFloat (aa bb cc : BitVec 8)
  /-- `sub-float vAA, vBB, vCC`, opcode 0xa7, format 23x (R391). -/
  | subFloat (aa bb cc : BitVec 8)
  /-- `mul-float vAA, vBB, vCC`, opcode 0xa8, format 23x (R392). -/
  | mulFloat (aa bb cc : BitVec 8)
  /-- `div-float vAA, vBB, vCC`, opcode 0xa9, format 23x (R393). -/
  | divFloat (aa bb cc : BitVec 8)
  /-- `rem-float vAA, vBB, vCC`, opcode 0xaa, format 23x (R394). -/
  | remFloat (aa bb cc : BitVec 8)
  /-- `add-double vAA, vBB, vCC`, opcode 0xab, format 23x (R395). -/
  | addDouble (aa bb cc : BitVec 8)
  /-- `sub-double vAA, vBB, vCC`, opcode 0xac, format 23x (R396). -/
  | subDouble (aa bb cc : BitVec 8)
  /-- `mul-double vAA, vBB, vCC`, opcode 0xad, format 23x (R397). -/
  | mulDouble (aa bb cc : BitVec 8)
  /-- `div-double vAA, vBB, vCC`, opcode 0xae, format 23x (R398). -/
  | divDouble (aa bb cc : BitVec 8)
  /-- `rem-double vAA, vBB, vCC`, opcode 0xaf, format 23x (R399). -/
  | remDouble (aa bb cc : BitVec 8)
  /-- `add-int/2addr vA, vB`, opcode 0xb0, format 12x (R282). -/
  | addInt2addr (a b : BitVec 4)
  /-- `sub-int/2addr vA, vB`, opcode 0xb1, format 12x (R283). -/
  | subInt2addr (a b : BitVec 4)
  /-- `mul-int/2addr vA, vB`, opcode 0xb2, format 12x (R284). -/
  | mulInt2addr (a b : BitVec 4)
  /-- `div-int/2addr vA, vB`, opcode 0xb3, format 12x (R285). -/
  | divInt2addr (a b : BitVec 4)
  /-- `rem-int/2addr vA, vB`, opcode 0xb4, format 12x (R286). -/
  | remInt2addr (a b : BitVec 4)
  /-- `and-int/2addr vA, vB`, opcode 0xb5, format 12x (R287). -/
  | andInt2addr (a b : BitVec 4)
  /-- `or-int/2addr vA, vB`, opcode 0xb6, format 12x (R288). -/
  | orInt2addr (a b : BitVec 4)
  /-- `xor-int/2addr vA, vB`, opcode 0xb7, format 12x (R289). -/
  | xorInt2addr (a b : BitVec 4)
  /-- `shl-int/2addr vA, vB`, opcode 0xb8, format 12x (R290). -/
  | shlInt2addr (a b : BitVec 4)
  /-- `shr-int/2addr vA, vB`, opcode 0xb9, format 12x (R291). -/
  | shrInt2addr (a b : BitVec 4)
  /-- `ushr-int/2addr vA, vB`, opcode 0xba, format 12x (R292). -/
  | ushrInt2addr (a b : BitVec 4)
  /-- `add-long/2addr vA, vB`, opcode 0xbb, format 12x (R293). -/
  | addLong2addr (a b : BitVec 4)
  /-- `sub-long/2addr vA, vB`, opcode 0xbc, format 12x (R294). -/
  | subLong2addr (a b : BitVec 4)
  /-- `mul-long/2addr vA, vB`, opcode 0xbd, format 12x (R295). -/
  | mulLong2addr (a b : BitVec 4)
  /-- `div-long/2addr vA, vB`, opcode 0xbe, format 12x (R296). -/
  | divLong2addr (a b : BitVec 4)
  /-- `rem-long/2addr vA, vB`, opcode 0xbf, format 12x (R297). -/
  | remLong2addr (a b : BitVec 4)
  /-- `and-long/2addr vA, vB`, opcode 0xc0, format 12x (R298). -/
  | andLong2addr (a b : BitVec 4)
  /-- `or-long/2addr vA, vB`, opcode 0xc1, format 12x (R299). -/
  | orLong2addr (a b : BitVec 4)
  /-- `xor-long/2addr vA, vB`, opcode 0xc2, format 12x (R300). -/
  | xorLong2addr (a b : BitVec 4)
  /-- `shl-long/2addr vA, vB`, opcode 0xc3, format 12x (R301). -/
  | shlLong2addr (a b : BitVec 4)
  /-- `shr-long/2addr vA, vB`, opcode 0xc4, format 12x (R302). -/
  | shrLong2addr (a b : BitVec 4)
  /-- `ushr-long/2addr vA, vB`, opcode 0xc5, format 12x (R303). -/
  | ushrLong2addr (a b : BitVec 4)
  /-- `add-float/2addr vA, vB`, opcode 0xc6, format 12x (R400). -/
  | addFloat2addr (a b : BitVec 4)
  /-- `sub-float/2addr vA, vB`, opcode 0xc7, format 12x (R401). -/
  | subFloat2addr (a b : BitVec 4)
  /-- `mul-float/2addr vA, vB`, opcode 0xc8, format 12x (R402). -/
  | mulFloat2addr (a b : BitVec 4)
  /-- `div-float/2addr vA, vB`, opcode 0xc9, format 12x (R403). -/
  | divFloat2addr (a b : BitVec 4)
  /-- `rem-float/2addr vA, vB`, opcode 0xca, format 12x (R404). -/
  | remFloat2addr (a b : BitVec 4)
  /-- `add-double/2addr vA, vB`, opcode 0xcb, format 12x (R405). -/
  | addDouble2addr (a b : BitVec 4)
  /-- `sub-double/2addr vA, vB`, opcode 0xcc, format 12x (R406). -/
  | subDouble2addr (a b : BitVec 4)
  /-- `mul-double/2addr vA, vB`, opcode 0xcd, format 12x (R407). -/
  | mulDouble2addr (a b : BitVec 4)
  /-- `div-double/2addr vA, vB`, opcode 0xce, format 12x (R408). -/
  | divDouble2addr (a b : BitVec 4)
  /-- `rem-double/2addr vA, vB`, opcode 0xcf, format 12x (R409). -/
  | remDouble2addr (a b : BitVec 4)
  /-- `add-int/lit16 vA, vB, #+CCCC`, opcode 0xd0, format 22s (R304). -/
  | addIntLit16 (a b : BitVec 4) (cccc : BitVec 16)
  /-- `rsub-int vA, vB, #+CCCC`, opcode 0xd1, format 22s (R305). -/
  | rsubInt (a b : BitVec 4) (cccc : BitVec 16)
  /-- `mul-int/lit16 vA, vB, #+CCCC`, opcode 0xd2, format 22s (R306). -/
  | mulIntLit16 (a b : BitVec 4) (cccc : BitVec 16)
  /-- `div-int/lit16 vA, vB, #+CCCC`, opcode 0xd3, format 22s (R307). -/
  | divIntLit16 (a b : BitVec 4) (cccc : BitVec 16)
  /-- `rem-int/lit16 vA, vB, #+CCCC`, opcode 0xd4, format 22s (R308). -/
  | remIntLit16 (a b : BitVec 4) (cccc : BitVec 16)
  /-- `and-int/lit16 vA, vB, #+CCCC`, opcode 0xd5, format 22s (R309). -/
  | andIntLit16 (a b : BitVec 4) (cccc : BitVec 16)
  /-- `or-int/lit16 vA, vB, #+CCCC`, opcode 0xd6, format 22s (R310). -/
  | orIntLit16 (a b : BitVec 4) (cccc : BitVec 16)
  /-- `xor-int/lit16 vA, vB, #+CCCC`, opcode 0xd7, format 22s (R311). -/
  | xorIntLit16 (a b : BitVec 4) (cccc : BitVec 16)
  /-- `add-int/lit8 vAA, vBB, #+CC`, opcode 0xd8, format 22b (R312). -/
  | addIntLit8 (aa bb cc : BitVec 8)
  /-- `rsub-int/lit8 vAA, vBB, #+CC`, opcode 0xd9, format 22b (R313). -/
  | rsubIntLit8 (aa bb cc : BitVec 8)
  /-- `mul-int/lit8 vAA, vBB, #+CC`, opcode 0xda, format 22b (R314). -/
  | mulIntLit8 (aa bb cc : BitVec 8)
  /-- `div-int/lit8 vAA, vBB, #+CC`, opcode 0xdb, format 22b (R315). -/
  | divIntLit8 (aa bb cc : BitVec 8)
  /-- `rem-int/lit8 vAA, vBB, #+CC`, opcode 0xdc, format 22b (R316). -/
  | remIntLit8 (aa bb cc : BitVec 8)
  /-- `and-int/lit8 vAA, vBB, #+CC`, opcode 0xdd, format 22b (R317). -/
  | andIntLit8 (aa bb cc : BitVec 8)
  /-- `or-int/lit8 vAA, vBB, #+CC`, opcode 0xde, format 22b (R318). -/
  | orIntLit8 (aa bb cc : BitVec 8)
  /-- `xor-int/lit8 vAA, vBB, #+CC`, opcode 0xdf, format 22b (R319). -/
  | xorIntLit8 (aa bb cc : BitVec 8)
  /-- `shl-int/lit8 vAA, vBB, #+CC`, opcode 0xe0, format 22b (R320). -/
  | shlIntLit8 (aa bb cc : BitVec 8)
  /-- `shr-int/lit8 vAA, vBB, #+CC`, opcode 0xe1, format 22b (R321). -/
  | shrIntLit8 (aa bb cc : BitVec 8)
  /-- `ushr-int/lit8 vAA, vBB, #+CC`, opcode 0xe2, format 22b (R322). -/
  | ushrIntLit8 (aa bb cc : BitVec 8)
  /-- unassigned opcode 0xe3: the unknown-opcode trap (R128). -/
  | unusedE3
  /-- unassigned opcode 0xe4: the unknown-opcode trap (R128). -/
  | unusedE4
  /-- unassigned opcode 0xe5: the unknown-opcode trap (R128). -/
  | unusedE5
  /-- unassigned opcode 0xe6: the unknown-opcode trap (R128). -/
  | unusedE6
  /-- unassigned opcode 0xe7: the unknown-opcode trap (R128). -/
  | unusedE7
  /-- unassigned opcode 0xe8: the unknown-opcode trap (R128). -/
  | unusedE8
  /-- unassigned opcode 0xe9: the unknown-opcode trap (R128). -/
  | unusedE9
  /-- unassigned opcode 0xea: the unknown-opcode trap (R128). -/
  | unusedEa
  /-- unassigned opcode 0xeb: the unknown-opcode trap (R128). -/
  | unusedEb
  /-- unassigned opcode 0xec: the unknown-opcode trap (R128). -/
  | unusedEc
  /-- unassigned opcode 0xed: the unknown-opcode trap (R128). -/
  | unusedEd
  /-- unassigned opcode 0xee: the unknown-opcode trap (R128). -/
  | unusedEe
  /-- unassigned opcode 0xef: the unknown-opcode trap (R128). -/
  | unusedEf
  /-- unassigned opcode 0xf0: the unknown-opcode trap (R128). -/
  | unusedF0
  /-- unassigned opcode 0xf1: the unknown-opcode trap (R128). -/
  | unusedF1
  /-- unassigned opcode 0xf2: the unknown-opcode trap (R128). -/
  | unusedF2
  /-- unassigned opcode 0xf3: the unknown-opcode trap (R128). -/
  | unusedF3
  /-- unassigned opcode 0xf4: the unknown-opcode trap (R128). -/
  | unusedF4
  /-- unassigned opcode 0xf5: the unknown-opcode trap (R128). -/
  | unusedF5
  /-- unassigned opcode 0xf6: the unknown-opcode trap (R128). -/
  | unusedF6
  /-- unassigned opcode 0xf7: the unknown-opcode trap (R128). -/
  | unusedF7
  /-- unassigned opcode 0xf8: the unknown-opcode trap (R128). -/
  | unusedF8
  /-- unassigned opcode 0xf9: the unknown-opcode trap (R128). -/
  | unusedF9
  /-- unassigned opcode 0xfa: the unknown-opcode trap (R128). -/
  | unusedFa
  /-- unassigned opcode 0xfb: the unknown-opcode trap (R128). -/
  | unusedFb
  /-- unassigned opcode 0xfc: the unknown-opcode trap (R128). -/
  | unusedFc
  /-- unassigned opcode 0xfd: the unknown-opcode trap (R128). -/
  | unusedFd
  /-- unassigned opcode 0xfe: the unknown-opcode trap (R128). -/
  | unusedFe
  /-- unassigned opcode 0xff: the unknown-opcode trap (R128). -/
  | unusedFf
deriving DecidableEq, Repr

end Sys2Proof
end

