-- ==== Sys2Proof/Decode.lean ====
section
/-! DEFINITION. The instruction decoder (spec/30_encoding.md, spec/40_dispatch.md R172, R173): the opcode table OPT, the
operand fields of each format, the decoder over code units, and the encoder written from the same layouts. A value wider
than one code unit is stored low unit first (R85). The reserved bits of formats 10x, 20t, 32x and 30t are ignored by the
decoder (R129) and written as zero by the encoder. -/

namespace Sys2Proof

/-! ### Fields -/

/-- Bits 7:0 of a unit: the opcode of a first unit (R120). -/
def lowByte (u : CodeUnit) : BitVec 8 := u.extractLsb' 0 8
/-- Bits 15:8 of a unit: the field AA of a first unit, CC of a second. -/
def highByte (u : CodeUnit) : BitVec 8 := u.extractLsb' 8 8
/-- Bits 4k+3:4k of a unit. -/
def nibble (k : Nat) (u : CodeUnit) : BitVec 4 := u.extractLsb' (4 * k) 4

/-- What one entry of the opcode table holds: the format of the opcode (R123) and the instruction its fields make, or the
trap of an unassigned opcode (R128). -/
inductive Shape where
  | f10x (mk : Instr)
  | f12x (mk : BitVec 4 → BitVec 4 → Instr)
  | f11n (mk : BitVec 4 → BitVec 4 → Instr)
  | f11x (mk : BitVec 8 → Instr)
  | f10t (mk : BitVec 8 → Instr)
  | f20t (mk : BitVec 16 → Instr)
  | f22x (mk : BitVec 8 → BitVec 16 → Instr)
  | f21t (mk : BitVec 8 → BitVec 16 → Instr)
  | f21s (mk : BitVec 8 → BitVec 16 → Instr)
  | f21h (mk : BitVec 8 → BitVec 16 → Instr)
  | f21c (mk : BitVec 8 → BitVec 16 → Instr)
  | f23x (mk : BitVec 8 → BitVec 8 → BitVec 8 → Instr)
  | f22b (mk : BitVec 8 → BitVec 8 → BitVec 8 → Instr)
  | f22t (mk : BitVec 4 → BitVec 4 → BitVec 16 → Instr)
  | f22s (mk : BitVec 4 → BitVec 4 → BitVec 16 → Instr)
  | f22c (mk : BitVec 4 → BitVec 4 → BitVec 16 → Instr)
  | f32x (mk : BitVec 16 → BitVec 16 → Instr)
  | f30t (mk : BitVec 32 → Instr)
  | f31t (mk : BitVec 8 → BitVec 32 → Instr)
  | f31i (mk : BitVec 8 → BitVec 32 → Instr)
  | f31c (mk : BitVec 8 → BitVec 32 → Instr)
  | f35c (mk : BitVec 4 → BitVec 16 → BitVec 4 → BitVec 4 → BitVec 4 → BitVec 4 → BitVec 4 → Instr)
  | f3rc (mk : BitVec 8 → BitVec 16 → BitVec 16 → Instr)
  | f51l (mk : BitVec 8 → BitVec 64 → Instr)
  | trap (mk : Instr)

/-- `len(op)`: the number of code units of the format (R124). A trap reads one unit (R128). -/
def Shape.len : Shape → Nat
  | .f10x _ => 1
  | .f12x _ => 1
  | .f11n _ => 1
  | .f11x _ => 1
  | .f10t _ => 1
  | .f20t _ => 2
  | .f22x _ => 2
  | .f21t _ => 2
  | .f21s _ => 2
  | .f21h _ => 2
  | .f21c _ => 2
  | .f23x _ => 2
  | .f22b _ => 2
  | .f22t _ => 2
  | .f22s _ => 2
  | .f22c _ => 2
  | .f32x _ => 3
  | .f30t _ => 3
  | .f31t _ => 3
  | .f31i _ => 3
  | .f31c _ => 3
  | .f35c _ => 3
  | .f3rc _ => 3
  | .f51l _ => 5
  | .trap _ => 1

/-- The instruction that the units u0 to u4 hold in this format (R135 to R158). -/
def Shape.build (sh : Shape) (u0 u1 u2 u3 u4 : CodeUnit) : Instr :=
  match sh with
  | .f10x mk => mk
  | .f12x mk => mk (nibble 2 u0) (nibble 3 u0)
  | .f11n mk => mk (nibble 2 u0) (nibble 3 u0)
  | .f11x mk => mk (highByte u0)
  | .f10t mk => mk (highByte u0)
  | .f20t mk => mk u1
  | .f22x mk => mk (highByte u0) u1
  | .f21t mk => mk (highByte u0) u1
  | .f21s mk => mk (highByte u0) u1
  | .f21h mk => mk (highByte u0) u1
  | .f21c mk => mk (highByte u0) u1
  | .f23x mk => mk (highByte u0) (lowByte u1) (highByte u1)
  | .f22b mk => mk (highByte u0) (lowByte u1) (highByte u1)
  | .f22t mk => mk (nibble 2 u0) (nibble 3 u0) u1
  | .f22s mk => mk (nibble 2 u0) (nibble 3 u0) u1
  | .f22c mk => mk (nibble 2 u0) (nibble 3 u0) u1
  | .f32x mk => mk u1 u2
  | .f30t mk => mk (u2 ++ u1)
  | .f31t mk => mk (highByte u0) (u2 ++ u1)
  | .f31i mk => mk (highByte u0) (u2 ++ u1)
  | .f31c mk => mk (highByte u0) (u2 ++ u1)
  | .f35c mk => mk (nibble 3 u0) u1 (nibble 0 u2) (nibble 1 u2) (nibble 2 u2) (nibble 3 u2) (nibble 2 u0)
  | .f3rc mk => mk (highByte u0) u1 u2
  | .f51l mk => mk (highByte u0) (u4 ++ u3 ++ u2 ++ u1)
  | .trap mk => mk

/-! ### The opcode table (R127, R178) -/

/-- Opcodes 0x00 to 0x0f. -/
def opcodes00 : List Shape := [
  .f10x .nop,
  .f12x .move,
  .f22x .moveFrom16,
  .f32x .move16,
  .f12x .moveWide,
  .f22x .moveWideFrom16,
  .f32x .moveWide16,
  .f12x .moveObject,
  .f22x .moveObjectFrom16,
  .f32x .moveObject16,
  .f11x .moveResult,
  .f11x .moveResultWide,
  .f11x .moveResultObject,
  .f11x .moveException,
  .f10x .returnVoid,
  .f11x .returnVal]

/-- Opcodes 0x10 to 0x1f. -/
def opcodes10 : List Shape := [
  .f11x .returnWide,
  .f11x .returnObject,
  .f11n .const4,
  .f21s .const16,
  .f31i .const32,
  .f21h .constHigh16,
  .f21s .constWide16,
  .f31i .constWide32,
  .f51l .constWide,
  .f21h .constWideHigh16,
  .f21c .constString,
  .f31c .constStringJumbo,
  .f21c .constClass,
  .f11x .monitorEnter,
  .f11x .monitorExit,
  .f21c .checkCast]

/-- Opcodes 0x20 to 0x2f. -/
def opcodes20 : List Shape := [
  .f22c .instanceOf,
  .f12x .arrayLength,
  .f21c .newInstance,
  .f22c .newArray,
  .f35c .filledNewArray,
  .f3rc .filledNewArrayRange,
  .f31t .fillArrayData,
  .f11x .throwObj,
  .f10t .goto,
  .f20t .goto16,
  .f30t .goto32,
  .f31t .packedSwitch,
  .f31t .sparseSwitch,
  .f23x .cmplFloat,
  .f23x .cmpgFloat,
  .f23x .cmplDouble]

/-- Opcodes 0x30 to 0x3f. -/
def opcodes30 : List Shape := [
  .f23x .cmpgDouble,
  .f23x .cmpLong,
  .f22t .ifEq,
  .f22t .ifNe,
  .f22t .ifLt,
  .f22t .ifGe,
  .f22t .ifGt,
  .f22t .ifLe,
  .f21t .ifEqz,
  .f21t .ifNez,
  .f21t .ifLtz,
  .f21t .ifGez,
  .f21t .ifGtz,
  .f21t .ifLez,
  .trap .unused3e,
  .trap .unused3f]

/-- Opcodes 0x40 to 0x4f. -/
def opcodes40 : List Shape := [
  .trap .unused40,
  .trap .unused41,
  .trap .unused42,
  .trap .unused43,
  .f23x .aget,
  .f23x .agetWide,
  .f23x .agetObject,
  .f23x .agetBoolean,
  .f23x .agetByte,
  .f23x .agetChar,
  .f23x .agetShort,
  .f23x .aput,
  .f23x .aputWide,
  .f23x .aputObject,
  .f23x .aputBoolean,
  .f23x .aputByte]

/-- Opcodes 0x50 to 0x5f. -/
def opcodes50 : List Shape := [
  .f23x .aputChar,
  .f23x .aputShort,
  .f22c .iget,
  .f22c .igetWide,
  .f22c .igetObject,
  .f22c .igetBoolean,
  .f22c .igetByte,
  .f22c .igetChar,
  .f22c .igetShort,
  .f22c .iput,
  .f22c .iputWide,
  .f22c .iputObject,
  .f22c .iputBoolean,
  .f22c .iputByte,
  .f22c .iputChar,
  .f22c .iputShort]

/-- Opcodes 0x60 to 0x6f. -/
def opcodes60 : List Shape := [
  .f21c .sget,
  .f21c .sgetWide,
  .f21c .sgetObject,
  .f21c .sgetBoolean,
  .f21c .sgetByte,
  .f21c .sgetChar,
  .f21c .sgetShort,
  .f21c .sput,
  .f21c .sputWide,
  .f21c .sputObject,
  .f21c .sputBoolean,
  .f21c .sputByte,
  .f21c .sputChar,
  .f21c .sputShort,
  .f35c .invokeVirtual,
  .f35c .invokeSuper]

/-- Opcodes 0x70 to 0x7f. -/
def opcodes70 : List Shape := [
  .f35c .invokeDirect,
  .f35c .invokeStatic,
  .f35c .invokeInterface,
  .trap .unused73,
  .f3rc .invokeVirtualRange,
  .f3rc .invokeSuperRange,
  .f3rc .invokeDirectRange,
  .f3rc .invokeStaticRange,
  .f3rc .invokeInterfaceRange,
  .trap .unused79,
  .trap .unused7a,
  .f12x .negInt,
  .f12x .notInt,
  .f12x .negLong,
  .f12x .notLong,
  .f12x .negFloat]

/-- Opcodes 0x80 to 0x8f. -/
def opcodes80 : List Shape := [
  .f12x .negDouble,
  .f12x .intToLong,
  .f12x .intToFloat,
  .f12x .intToDouble,
  .f12x .longToInt,
  .f12x .longToFloat,
  .f12x .longToDouble,
  .f12x .floatToInt,
  .f12x .floatToLong,
  .f12x .floatToDouble,
  .f12x .doubleToInt,
  .f12x .doubleToLong,
  .f12x .doubleToFloat,
  .f12x .intToByte,
  .f12x .intToChar,
  .f12x .intToShort]

/-- Opcodes 0x90 to 0x9f. -/
def opcodes90 : List Shape := [
  .f23x .addInt,
  .f23x .subInt,
  .f23x .mulInt,
  .f23x .divInt,
  .f23x .remInt,
  .f23x .andInt,
  .f23x .orInt,
  .f23x .xorInt,
  .f23x .shlInt,
  .f23x .shrInt,
  .f23x .ushrInt,
  .f23x .addLong,
  .f23x .subLong,
  .f23x .mulLong,
  .f23x .divLong,
  .f23x .remLong]

/-- Opcodes 0xa0 to 0xaf. -/
def opcodesa0 : List Shape := [
  .f23x .andLong,
  .f23x .orLong,
  .f23x .xorLong,
  .f23x .shlLong,
  .f23x .shrLong,
  .f23x .ushrLong,
  .f23x .addFloat,
  .f23x .subFloat,
  .f23x .mulFloat,
  .f23x .divFloat,
  .f23x .remFloat,
  .f23x .addDouble,
  .f23x .subDouble,
  .f23x .mulDouble,
  .f23x .divDouble,
  .f23x .remDouble]

/-- Opcodes 0xb0 to 0xbf. -/
def opcodesb0 : List Shape := [
  .f12x .addInt2addr,
  .f12x .subInt2addr,
  .f12x .mulInt2addr,
  .f12x .divInt2addr,
  .f12x .remInt2addr,
  .f12x .andInt2addr,
  .f12x .orInt2addr,
  .f12x .xorInt2addr,
  .f12x .shlInt2addr,
  .f12x .shrInt2addr,
  .f12x .ushrInt2addr,
  .f12x .addLong2addr,
  .f12x .subLong2addr,
  .f12x .mulLong2addr,
  .f12x .divLong2addr,
  .f12x .remLong2addr]

/-- Opcodes 0xc0 to 0xcf. -/
def opcodesc0 : List Shape := [
  .f12x .andLong2addr,
  .f12x .orLong2addr,
  .f12x .xorLong2addr,
  .f12x .shlLong2addr,
  .f12x .shrLong2addr,
  .f12x .ushrLong2addr,
  .f12x .addFloat2addr,
  .f12x .subFloat2addr,
  .f12x .mulFloat2addr,
  .f12x .divFloat2addr,
  .f12x .remFloat2addr,
  .f12x .addDouble2addr,
  .f12x .subDouble2addr,
  .f12x .mulDouble2addr,
  .f12x .divDouble2addr,
  .f12x .remDouble2addr]

/-- Opcodes 0xd0 to 0xdf. -/
def opcodesd0 : List Shape := [
  .f22s .addIntLit16,
  .f22s .rsubInt,
  .f22s .mulIntLit16,
  .f22s .divIntLit16,
  .f22s .remIntLit16,
  .f22s .andIntLit16,
  .f22s .orIntLit16,
  .f22s .xorIntLit16,
  .f22b .addIntLit8,
  .f22b .rsubIntLit8,
  .f22b .mulIntLit8,
  .f22b .divIntLit8,
  .f22b .remIntLit8,
  .f22b .andIntLit8,
  .f22b .orIntLit8,
  .f22b .xorIntLit8]

/-- Opcodes 0xe0 to 0xef. -/
def opcodese0 : List Shape := [
  .f22b .shlIntLit8,
  .f22b .shrIntLit8,
  .f22b .ushrIntLit8,
  .trap .unusedE3,
  .trap .unusedE4,
  .trap .unusedE5,
  .trap .unusedE6,
  .trap .unusedE7,
  .trap .unusedE8,
  .trap .unusedE9,
  .trap .unusedEa,
  .trap .unusedEb,
  .trap .unusedEc,
  .trap .unusedEd,
  .trap .unusedEe,
  .trap .unusedEf]

/-- Opcodes 0xf0 to 0xff. -/
def opcodesf0 : List Shape := [
  .trap .unusedF0,
  .trap .unusedF1,
  .trap .unusedF2,
  .trap .unusedF3,
  .trap .unusedF4,
  .trap .unusedF5,
  .trap .unusedF6,
  .trap .unusedF7,
  .trap .unusedF8,
  .trap .unusedF9,
  .trap .unusedFa,
  .trap .unusedFb,
  .trap .unusedFc,
  .trap .unusedFd,
  .trap .unusedFe,
  .trap .unusedFf]

/-- OPT, indexed by the whole 8-bit opcode (R59, R172, R178). -/
def opcodeTable : List Shape :=
  opcodes00 ++ opcodes10 ++ opcodes20 ++ opcodes30 ++ opcodes40 ++ opcodes50 ++ opcodes60 ++ opcodes70 ++
  opcodes80 ++ opcodes90 ++ opcodesa0 ++ opcodesb0 ++ opcodesc0 ++ opcodesd0 ++ opcodese0 ++ opcodesf0

/-- `OPT[op]` (R172). The table has 256 entries, so every index is in it. -/
def shapeOf (op : BitVec 8) : Shape := opcodeTable.getD op.toNat (.trap .nop)

/-! ### The decoder -/

/-- Why a list of units holds no instruction. -/
inductive DecodeError where
  /-- There is no first unit. -/
  | noUnits
  /-- The format of the first unit's opcode needs more units than there are (R125). -/
  | truncated (need have_ : Nat)
deriving DecidableEq, Repr

/-- The instruction at the head of a list of code units (R171 to R173). Units beyond its own are not looked at. -/
def decode (units : List CodeUnit) : Except DecodeError Instr :=
  match units with
  | [] => .error .noUnits
  | u0 :: rest =>
    let sh := shapeOf (lowByte u0)
    if rest.length + 1 < sh.len then .error (.truncated sh.len (rest.length + 1))
    else .ok (sh.build u0 (rest.getD 0 0) (rest.getD 1 0) (rest.getD 2 0) (rest.getD 3 0))

/-! ### Byte order (R83, R84) -/

/-- The bytes of code units in stream order: byte 2k is the low byte of unit k. -/
def bytesOfUnits : List CodeUnit → List Byte
  | [] => []
  | u :: us => lowByte u :: highByte u :: bytesOfUnits us

/-- The code units of a byte sequence; an odd last byte makes no unit. -/
def unitsOfBytes : List Byte → List CodeUnit
  | lo :: hi :: rest => (hi ++ lo) :: unitsOfBytes rest
  | _ => []

/-- The five code units of a word numbered as spec/opcode_table.json numbers an instruction's bits: bit 0 is the lowest
bit of the first unit, bit 16 the lowest of the second. Bits from `nbits` up are zero. Five units hold the longest
instruction (R124). -/
def tableUnits (nbits w : Nat) : List CodeUnit :=
  let v := w % 2 ^ nbits
  [BitVec.ofNat 16 v, BitVec.ofNat 16 (v / 2 ^ 16), BitVec.ofNat 16 (v / 2 ^ 32), BitVec.ofNat 16 (v / 2 ^ 48),
    BitVec.ofNat 16 (v / 2 ^ 64)]

/-- The instruction the decoder reads from a table word laid out as the stream stores it. -/
def decodeTableWord (nbits w : Nat) : Option Instr :=
  (decode (unitsOfBytes (bytesOfUnits (tableUnits nbits w)))).toOption

/-! ### The encoder (R135 to R158) -/

/-- One unit `BB AA`-style: a high byte over a low byte. -/
def unit8 (hi lo : BitVec 8) : CodeUnit := hi ++ lo
/-- One unit `B A op`. -/
def unit4 (b a : BitVec 4) (op : BitVec 8) : CodeUnit := b ++ a ++ op
/-- The low and high units of a 32-bit field (R85). -/
def units32 (v : BitVec 32) : List CodeUnit := [v.extractLsb' 0 16, v.extractLsb' 16 16]
/-- The four units of a 64-bit field (R85). -/
def units64 (v : BitVec 64) : List CodeUnit :=
  [v.extractLsb' 0 16, v.extractLsb' 16 16, v.extractLsb' 32 16, v.extractLsb' 48 16]
/-- Format 35c (R156). -/
def encode35c (op : BitVec 8) (a : BitVec 4) (bbbb : BitVec 16) (c d e f g : BitVec 4) : List CodeUnit :=
  [unit4 a g op, bbbb, f ++ e ++ d ++ c]

/-- The code units of an instruction. -/
def encode (i : Instr) : List CodeUnit :=
  match i with
  | .nop => [unit8 0#8 0x00#8]
  | .move a b => [unit4 b a 0x01#8]
  | .moveFrom16 aa bbbb => [unit8 aa 0x02#8, bbbb]
  | .move16 aaaa bbbb => [unit8 0#8 0x03#8, aaaa, bbbb]
  | .moveWide a b => [unit4 b a 0x04#8]
  | .moveWideFrom16 aa bbbb => [unit8 aa 0x05#8, bbbb]
  | .moveWide16 aaaa bbbb => [unit8 0#8 0x06#8, aaaa, bbbb]
  | .moveObject a b => [unit4 b a 0x07#8]
  | .moveObjectFrom16 aa bbbb => [unit8 aa 0x08#8, bbbb]
  | .moveObject16 aaaa bbbb => [unit8 0#8 0x09#8, aaaa, bbbb]
  | .moveResult aa => [unit8 aa 0x0a#8]
  | .moveResultWide aa => [unit8 aa 0x0b#8]
  | .moveResultObject aa => [unit8 aa 0x0c#8]
  | .moveException aa => [unit8 aa 0x0d#8]
  | .returnVoid => [unit8 0#8 0x0e#8]
  | .returnVal aa => [unit8 aa 0x0f#8]
  | .returnWide aa => [unit8 aa 0x10#8]
  | .returnObject aa => [unit8 aa 0x11#8]
  | .const4 a b => [unit4 b a 0x12#8]
  | .const16 aa bbbb => [unit8 aa 0x13#8, bbbb]
  | .const32 aa lit => unit8 aa 0x14#8 :: units32 lit
  | .constHigh16 aa bbbb => [unit8 aa 0x15#8, bbbb]
  | .constWide16 aa bbbb => [unit8 aa 0x16#8, bbbb]
  | .constWide32 aa lit => unit8 aa 0x17#8 :: units32 lit
  | .constWide aa lit => unit8 aa 0x18#8 :: units64 lit
  | .constWideHigh16 aa bbbb => [unit8 aa 0x19#8, bbbb]
  | .constString aa bbbb => [unit8 aa 0x1a#8, bbbb]
  | .constStringJumbo aa idx => unit8 aa 0x1b#8 :: units32 idx
  | .constClass aa bbbb => [unit8 aa 0x1c#8, bbbb]
  | .monitorEnter aa => [unit8 aa 0x1d#8]
  | .monitorExit aa => [unit8 aa 0x1e#8]
  | .checkCast aa bbbb => [unit8 aa 0x1f#8, bbbb]
  | .instanceOf a b cccc => [unit4 b a 0x20#8, cccc]
  | .arrayLength a b => [unit4 b a 0x21#8]
  | .newInstance aa bbbb => [unit8 aa 0x22#8, bbbb]
  | .newArray a b cccc => [unit4 b a 0x23#8, cccc]
  | .filledNewArray a bbbb c d e f g => encode35c 0x24#8 a bbbb c d e f g
  | .filledNewArrayRange aa bbbb cccc => [unit8 aa 0x25#8, bbbb, cccc]
  | .fillArrayData aa off => unit8 aa 0x26#8 :: units32 off
  | .throwObj aa => [unit8 aa 0x27#8]
  | .goto aa => [unit8 aa 0x28#8]
  | .goto16 aaaa => [unit8 0#8 0x29#8, aaaa]
  | .goto32 off => unit8 0#8 0x2a#8 :: units32 off
  | .packedSwitch aa off => unit8 aa 0x2b#8 :: units32 off
  | .sparseSwitch aa off => unit8 aa 0x2c#8 :: units32 off
  | .cmplFloat aa bb cc => [unit8 aa 0x2d#8, unit8 cc bb]
  | .cmpgFloat aa bb cc => [unit8 aa 0x2e#8, unit8 cc bb]
  | .cmplDouble aa bb cc => [unit8 aa 0x2f#8, unit8 cc bb]
  | .cmpgDouble aa bb cc => [unit8 aa 0x30#8, unit8 cc bb]
  | .cmpLong aa bb cc => [unit8 aa 0x31#8, unit8 cc bb]
  | .ifEq a b cccc => [unit4 b a 0x32#8, cccc]
  | .ifNe a b cccc => [unit4 b a 0x33#8, cccc]
  | .ifLt a b cccc => [unit4 b a 0x34#8, cccc]
  | .ifGe a b cccc => [unit4 b a 0x35#8, cccc]
  | .ifGt a b cccc => [unit4 b a 0x36#8, cccc]
  | .ifLe a b cccc => [unit4 b a 0x37#8, cccc]
  | .ifEqz aa bbbb => [unit8 aa 0x38#8, bbbb]
  | .ifNez aa bbbb => [unit8 aa 0x39#8, bbbb]
  | .ifLtz aa bbbb => [unit8 aa 0x3a#8, bbbb]
  | .ifGez aa bbbb => [unit8 aa 0x3b#8, bbbb]
  | .ifGtz aa bbbb => [unit8 aa 0x3c#8, bbbb]
  | .ifLez aa bbbb => [unit8 aa 0x3d#8, bbbb]
  | .unused3e => [unit8 0#8 0x3e#8]
  | .unused3f => [unit8 0#8 0x3f#8]
  | .unused40 => [unit8 0#8 0x40#8]
  | .unused41 => [unit8 0#8 0x41#8]
  | .unused42 => [unit8 0#8 0x42#8]
  | .unused43 => [unit8 0#8 0x43#8]
  | .aget aa bb cc => [unit8 aa 0x44#8, unit8 cc bb]
  | .agetWide aa bb cc => [unit8 aa 0x45#8, unit8 cc bb]
  | .agetObject aa bb cc => [unit8 aa 0x46#8, unit8 cc bb]
  | .agetBoolean aa bb cc => [unit8 aa 0x47#8, unit8 cc bb]
  | .agetByte aa bb cc => [unit8 aa 0x48#8, unit8 cc bb]
  | .agetChar aa bb cc => [unit8 aa 0x49#8, unit8 cc bb]
  | .agetShort aa bb cc => [unit8 aa 0x4a#8, unit8 cc bb]
  | .aput aa bb cc => [unit8 aa 0x4b#8, unit8 cc bb]
  | .aputWide aa bb cc => [unit8 aa 0x4c#8, unit8 cc bb]
  | .aputObject aa bb cc => [unit8 aa 0x4d#8, unit8 cc bb]
  | .aputBoolean aa bb cc => [unit8 aa 0x4e#8, unit8 cc bb]
  | .aputByte aa bb cc => [unit8 aa 0x4f#8, unit8 cc bb]
  | .aputChar aa bb cc => [unit8 aa 0x50#8, unit8 cc bb]
  | .aputShort aa bb cc => [unit8 aa 0x51#8, unit8 cc bb]
  | .iget a b cccc => [unit4 b a 0x52#8, cccc]
  | .igetWide a b cccc => [unit4 b a 0x53#8, cccc]
  | .igetObject a b cccc => [unit4 b a 0x54#8, cccc]
  | .igetBoolean a b cccc => [unit4 b a 0x55#8, cccc]
  | .igetByte a b cccc => [unit4 b a 0x56#8, cccc]
  | .igetChar a b cccc => [unit4 b a 0x57#8, cccc]
  | .igetShort a b cccc => [unit4 b a 0x58#8, cccc]
  | .iput a b cccc => [unit4 b a 0x59#8, cccc]
  | .iputWide a b cccc => [unit4 b a 0x5a#8, cccc]
  | .iputObject a b cccc => [unit4 b a 0x5b#8, cccc]
  | .iputBoolean a b cccc => [unit4 b a 0x5c#8, cccc]
  | .iputByte a b cccc => [unit4 b a 0x5d#8, cccc]
  | .iputChar a b cccc => [unit4 b a 0x5e#8, cccc]
  | .iputShort a b cccc => [unit4 b a 0x5f#8, cccc]
  | .sget aa bbbb => [unit8 aa 0x60#8, bbbb]
  | .sgetWide aa bbbb => [unit8 aa 0x61#8, bbbb]
  | .sgetObject aa bbbb => [unit8 aa 0x62#8, bbbb]
  | .sgetBoolean aa bbbb => [unit8 aa 0x63#8, bbbb]
  | .sgetByte aa bbbb => [unit8 aa 0x64#8, bbbb]
  | .sgetChar aa bbbb => [unit8 aa 0x65#8, bbbb]
  | .sgetShort aa bbbb => [unit8 aa 0x66#8, bbbb]
  | .sput aa bbbb => [unit8 aa 0x67#8, bbbb]
  | .sputWide aa bbbb => [unit8 aa 0x68#8, bbbb]
  | .sputObject aa bbbb => [unit8 aa 0x69#8, bbbb]
  | .sputBoolean aa bbbb => [unit8 aa 0x6a#8, bbbb]
  | .sputByte aa bbbb => [unit8 aa 0x6b#8, bbbb]
  | .sputChar aa bbbb => [unit8 aa 0x6c#8, bbbb]
  | .sputShort aa bbbb => [unit8 aa 0x6d#8, bbbb]
  | .invokeVirtual a bbbb c d e f g => encode35c 0x6e#8 a bbbb c d e f g
  | .invokeSuper a bbbb c d e f g => encode35c 0x6f#8 a bbbb c d e f g
  | .invokeDirect a bbbb c d e f g => encode35c 0x70#8 a bbbb c d e f g
  | .invokeStatic a bbbb c d e f g => encode35c 0x71#8 a bbbb c d e f g
  | .invokeInterface a bbbb c d e f g => encode35c 0x72#8 a bbbb c d e f g
  | .unused73 => [unit8 0#8 0x73#8]
  | .invokeVirtualRange aa bbbb cccc => [unit8 aa 0x74#8, bbbb, cccc]
  | .invokeSuperRange aa bbbb cccc => [unit8 aa 0x75#8, bbbb, cccc]
  | .invokeDirectRange aa bbbb cccc => [unit8 aa 0x76#8, bbbb, cccc]
  | .invokeStaticRange aa bbbb cccc => [unit8 aa 0x77#8, bbbb, cccc]
  | .invokeInterfaceRange aa bbbb cccc => [unit8 aa 0x78#8, bbbb, cccc]
  | .unused79 => [unit8 0#8 0x79#8]
  | .unused7a => [unit8 0#8 0x7a#8]
  | .negInt a b => [unit4 b a 0x7b#8]
  | .notInt a b => [unit4 b a 0x7c#8]
  | .negLong a b => [unit4 b a 0x7d#8]
  | .notLong a b => [unit4 b a 0x7e#8]
  | .negFloat a b => [unit4 b a 0x7f#8]
  | .negDouble a b => [unit4 b a 0x80#8]
  | .intToLong a b => [unit4 b a 0x81#8]
  | .intToFloat a b => [unit4 b a 0x82#8]
  | .intToDouble a b => [unit4 b a 0x83#8]
  | .longToInt a b => [unit4 b a 0x84#8]
  | .longToFloat a b => [unit4 b a 0x85#8]
  | .longToDouble a b => [unit4 b a 0x86#8]
  | .floatToInt a b => [unit4 b a 0x87#8]
  | .floatToLong a b => [unit4 b a 0x88#8]
  | .floatToDouble a b => [unit4 b a 0x89#8]
  | .doubleToInt a b => [unit4 b a 0x8a#8]
  | .doubleToLong a b => [unit4 b a 0x8b#8]
  | .doubleToFloat a b => [unit4 b a 0x8c#8]
  | .intToByte a b => [unit4 b a 0x8d#8]
  | .intToChar a b => [unit4 b a 0x8e#8]
  | .intToShort a b => [unit4 b a 0x8f#8]
  | .addInt aa bb cc => [unit8 aa 0x90#8, unit8 cc bb]
  | .subInt aa bb cc => [unit8 aa 0x91#8, unit8 cc bb]
  | .mulInt aa bb cc => [unit8 aa 0x92#8, unit8 cc bb]
  | .divInt aa bb cc => [unit8 aa 0x93#8, unit8 cc bb]
  | .remInt aa bb cc => [unit8 aa 0x94#8, unit8 cc bb]
  | .andInt aa bb cc => [unit8 aa 0x95#8, unit8 cc bb]
  | .orInt aa bb cc => [unit8 aa 0x96#8, unit8 cc bb]
  | .xorInt aa bb cc => [unit8 aa 0x97#8, unit8 cc bb]
  | .shlInt aa bb cc => [unit8 aa 0x98#8, unit8 cc bb]
  | .shrInt aa bb cc => [unit8 aa 0x99#8, unit8 cc bb]
  | .ushrInt aa bb cc => [unit8 aa 0x9a#8, unit8 cc bb]
  | .addLong aa bb cc => [unit8 aa 0x9b#8, unit8 cc bb]
  | .subLong aa bb cc => [unit8 aa 0x9c#8, unit8 cc bb]
  | .mulLong aa bb cc => [unit8 aa 0x9d#8, unit8 cc bb]
  | .divLong aa bb cc => [unit8 aa 0x9e#8, unit8 cc bb]
  | .remLong aa bb cc => [unit8 aa 0x9f#8, unit8 cc bb]
  | .andLong aa bb cc => [unit8 aa 0xa0#8, unit8 cc bb]
  | .orLong aa bb cc => [unit8 aa 0xa1#8, unit8 cc bb]
  | .xorLong aa bb cc => [unit8 aa 0xa2#8, unit8 cc bb]
  | .shlLong aa bb cc => [unit8 aa 0xa3#8, unit8 cc bb]
  | .shrLong aa bb cc => [unit8 aa 0xa4#8, unit8 cc bb]
  | .ushrLong aa bb cc => [unit8 aa 0xa5#8, unit8 cc bb]
  | .addFloat aa bb cc => [unit8 aa 0xa6#8, unit8 cc bb]
  | .subFloat aa bb cc => [unit8 aa 0xa7#8, unit8 cc bb]
  | .mulFloat aa bb cc => [unit8 aa 0xa8#8, unit8 cc bb]
  | .divFloat aa bb cc => [unit8 aa 0xa9#8, unit8 cc bb]
  | .remFloat aa bb cc => [unit8 aa 0xaa#8, unit8 cc bb]
  | .addDouble aa bb cc => [unit8 aa 0xab#8, unit8 cc bb]
  | .subDouble aa bb cc => [unit8 aa 0xac#8, unit8 cc bb]
  | .mulDouble aa bb cc => [unit8 aa 0xad#8, unit8 cc bb]
  | .divDouble aa bb cc => [unit8 aa 0xae#8, unit8 cc bb]
  | .remDouble aa bb cc => [unit8 aa 0xaf#8, unit8 cc bb]
  | .addInt2addr a b => [unit4 b a 0xb0#8]
  | .subInt2addr a b => [unit4 b a 0xb1#8]
  | .mulInt2addr a b => [unit4 b a 0xb2#8]
  | .divInt2addr a b => [unit4 b a 0xb3#8]
  | .remInt2addr a b => [unit4 b a 0xb4#8]
  | .andInt2addr a b => [unit4 b a 0xb5#8]
  | .orInt2addr a b => [unit4 b a 0xb6#8]
  | .xorInt2addr a b => [unit4 b a 0xb7#8]
  | .shlInt2addr a b => [unit4 b a 0xb8#8]
  | .shrInt2addr a b => [unit4 b a 0xb9#8]
  | .ushrInt2addr a b => [unit4 b a 0xba#8]
  | .addLong2addr a b => [unit4 b a 0xbb#8]
  | .subLong2addr a b => [unit4 b a 0xbc#8]
  | .mulLong2addr a b => [unit4 b a 0xbd#8]
  | .divLong2addr a b => [unit4 b a 0xbe#8]
  | .remLong2addr a b => [unit4 b a 0xbf#8]
  | .andLong2addr a b => [unit4 b a 0xc0#8]
  | .orLong2addr a b => [unit4 b a 0xc1#8]
  | .xorLong2addr a b => [unit4 b a 0xc2#8]
  | .shlLong2addr a b => [unit4 b a 0xc3#8]
  | .shrLong2addr a b => [unit4 b a 0xc4#8]
  | .ushrLong2addr a b => [unit4 b a 0xc5#8]
  | .addFloat2addr a b => [unit4 b a 0xc6#8]
  | .subFloat2addr a b => [unit4 b a 0xc7#8]
  | .mulFloat2addr a b => [unit4 b a 0xc8#8]
  | .divFloat2addr a b => [unit4 b a 0xc9#8]
  | .remFloat2addr a b => [unit4 b a 0xca#8]
  | .addDouble2addr a b => [unit4 b a 0xcb#8]
  | .subDouble2addr a b => [unit4 b a 0xcc#8]
  | .mulDouble2addr a b => [unit4 b a 0xcd#8]
  | .divDouble2addr a b => [unit4 b a 0xce#8]
  | .remDouble2addr a b => [unit4 b a 0xcf#8]
  | .addIntLit16 a b cccc => [unit4 b a 0xd0#8, cccc]
  | .rsubInt a b cccc => [unit4 b a 0xd1#8, cccc]
  | .mulIntLit16 a b cccc => [unit4 b a 0xd2#8, cccc]
  | .divIntLit16 a b cccc => [unit4 b a 0xd3#8, cccc]
  | .remIntLit16 a b cccc => [unit4 b a 0xd4#8, cccc]
  | .andIntLit16 a b cccc => [unit4 b a 0xd5#8, cccc]
  | .orIntLit16 a b cccc => [unit4 b a 0xd6#8, cccc]
  | .xorIntLit16 a b cccc => [unit4 b a 0xd7#8, cccc]
  | .addIntLit8 aa bb cc => [unit8 aa 0xd8#8, unit8 cc bb]
  | .rsubIntLit8 aa bb cc => [unit8 aa 0xd9#8, unit8 cc bb]
  | .mulIntLit8 aa bb cc => [unit8 aa 0xda#8, unit8 cc bb]
  | .divIntLit8 aa bb cc => [unit8 aa 0xdb#8, unit8 cc bb]
  | .remIntLit8 aa bb cc => [unit8 aa 0xdc#8, unit8 cc bb]
  | .andIntLit8 aa bb cc => [unit8 aa 0xdd#8, unit8 cc bb]
  | .orIntLit8 aa bb cc => [unit8 aa 0xde#8, unit8 cc bb]
  | .xorIntLit8 aa bb cc => [unit8 aa 0xdf#8, unit8 cc bb]
  | .shlIntLit8 aa bb cc => [unit8 aa 0xe0#8, unit8 cc bb]
  | .shrIntLit8 aa bb cc => [unit8 aa 0xe1#8, unit8 cc bb]
  | .ushrIntLit8 aa bb cc => [unit8 aa 0xe2#8, unit8 cc bb]
  | .unusedE3 => [unit8 0#8 0xe3#8]
  | .unusedE4 => [unit8 0#8 0xe4#8]
  | .unusedE5 => [unit8 0#8 0xe5#8]
  | .unusedE6 => [unit8 0#8 0xe6#8]
  | .unusedE7 => [unit8 0#8 0xe7#8]
  | .unusedE8 => [unit8 0#8 0xe8#8]
  | .unusedE9 => [unit8 0#8 0xe9#8]
  | .unusedEa => [unit8 0#8 0xea#8]
  | .unusedEb => [unit8 0#8 0xeb#8]
  | .unusedEc => [unit8 0#8 0xec#8]
  | .unusedEd => [unit8 0#8 0xed#8]
  | .unusedEe => [unit8 0#8 0xee#8]
  | .unusedEf => [unit8 0#8 0xef#8]
  | .unusedF0 => [unit8 0#8 0xf0#8]
  | .unusedF1 => [unit8 0#8 0xf1#8]
  | .unusedF2 => [unit8 0#8 0xf2#8]
  | .unusedF3 => [unit8 0#8 0xf3#8]
  | .unusedF4 => [unit8 0#8 0xf4#8]
  | .unusedF5 => [unit8 0#8 0xf5#8]
  | .unusedF6 => [unit8 0#8 0xf6#8]
  | .unusedF7 => [unit8 0#8 0xf7#8]
  | .unusedF8 => [unit8 0#8 0xf8#8]
  | .unusedF9 => [unit8 0#8 0xf9#8]
  | .unusedFa => [unit8 0#8 0xfa#8]
  | .unusedFb => [unit8 0#8 0xfb#8]
  | .unusedFc => [unit8 0#8 0xfc#8]
  | .unusedFd => [unit8 0#8 0xfd#8]
  | .unusedFe => [unit8 0#8 0xfe#8]
  | .unusedFf => [unit8 0#8 0xff#8]

end Sys2Proof
end

