-- ==== Sys2Proof/Machine/Ports.lean ====
section
/-! DEFINITION. The values that cross the engine's three ports (spec/10_state.md section 7): typed values and shorty
descriptors, the method descriptor the resolution collaborator supplies, the requests the engine issues on the ports
`Res` and `Host`, the answers it takes, and the host's entry call on the activation port. -/

namespace Sys2Proof.Machine

/-! ### Type codes and typed values (R18, R47, R69) -/

/-- The shorty codes of one-slot values that are not references (R18): int, boolean, byte, short, char, float. -/
inductive Code32 where
  | I | Z | B | S | C | F
deriving DecidableEq, Repr, Inhabited

/-- The shorty codes of category 2 (R17, R18): long and double. -/
inductive Code64 where
  | J | D
deriving DecidableEq, Repr, Inhabited

/-- A shorty code other than V (R18). -/
inductive TypeCode where
  | w32 (c : Code32)
  | w64 (c : Code64)
  | L
deriving DecidableEq, Repr, Inhabited

/-- A shorty descriptor (R16, R60): the return code (`none` is V, void) and one code per declared parameter. The
receiver is not among the parameters (R551 step 3). -/
structure Shorty where
  ret : Option TypeCode
  params : List TypeCode
deriving DecidableEq, Repr, Inhabited

/-- A typed value passed across a port (R69): 32 bits for I, Z, B, S, C, F (a narrow value in the low bits), 64 bits for
J and D, a handle for L. -/
inductive TypedValue where
  | w32 (c : Code32) (bits : Word32)
  | w64 (c : Code64) (bits : Word64)
  | ref (h : Handle)
deriving DecidableEq, Repr, Inhabited

/-- The return value an activation ends with (`finish`, R12): void, or a typed value. -/
inductive ReturnValue where
  | void
  | value (v : TypedValue)
deriving DecidableEq, Repr, Inhabited

/-! ### Answers' parts -/

/-- An answer that may fail: `fails(e)` carries the exception handle the answering party raised (R66, R67). -/
inductive Reply (α : Type) where
  | ok (v : α)
  | fails (e : Handle)
deriving DecidableEq, Repr, Inhabited

/-- What `Res.arrayElementType` answers (R66): an element shorty code, or `[` for an array of arrays. -/
inductive ElemKind where
  | code (c : TypeCode)
  | array
deriving DecidableEq, Repr, Inhabited

/-- The five invoke kinds (R550, R559). -/
inductive InvokeKind where
  | virtual | super | direct | static | interface
deriving DecidableEq, Repr, Inhabited

/-- The two argument forms of an invoke (R550): a packed register list or a register range. -/
inductive ArgForm where
  | packed | range
deriving DecidableEq, Repr, Inhabited

/-- A handler list of the exception-handler table (R61): a signed count whose magnitude is the number of
(exception type index, catch target) pairs, and a catch-all target that is present exactly when the count is not positive. -/
structure HandlerList where
  count : Int
  pairs : List (Nat × Int)
  catchAll : Option Int
deriving DecidableEq, Repr, Inhabited

/-- One range of the exception-handler table (R61), start and length in code units. -/
structure TryRange where
  start : Nat
  length : Nat
  handlers : HandlerList
deriving DecidableEq, Repr, Inhabited

/-- What `Res.methodInfo` answers (R66): the code units (L is their number), NREG, NINS, TRIES, and whether the method is
static. -/
structure MethodInfo where
  units : List CodeUnit
  nreg : Nat
  nins : Nat
  tries : List TryRange
  isStatic : Bool
deriving DecidableEq, Repr, Inhabited

/-- REG_MAX (R7): the largest register count. -/
def regMax : Nat := 65535

/-- CODE_MAX (R7): the largest stream length in code units. -/
def codeMax : Nat := 2 ^ 32 - 1

/-- The host's entry call on the activation port (R68, R703): a method reference and its argument list. -/
structure EntryCall where
  method : Handle
  args : List TypedValue
deriving DecidableEq, Repr, Inhabited

/-- What `Host.call` answers (R563, R564): the result's bits (typed by the shorty's return code), a failure, or first a
re-entry of the engine on the same thread (R68, R705), after which the call is still outstanding. -/
inductive CallReply where
  | returns (bits : Word64)
  | fails (e : Handle)
  | reenters (call : EntryCall)
deriving DecidableEq, Repr, Inhabited

/-- What `Host.monitorEnter` does (R67, R456): acquires, fails, or blocks and never answers. However long the host takes to
answer is no part of the model (R720). -/
inductive MonitorReply where
  | acquired
  | fails (e : Handle)
  | unanswered
deriving DecidableEq, Repr, Inhabited

/-- The answers that stand ready at the ports `Res` and `Host`, by the kind of transaction they answer (R66, R67). -/
inductive Answer where
  /-- resolveClass, resolveMethod, allocArray, selectTarget, newObject: a handle or a failure. -/
  | ref (r : Reply Handle)
  /-- resolveString, throwNewByClassName, classOf: a handle, never a failure. -/
  | handle (h : Handle)
  /-- resolveField, getFieldBySignature. -/
  | field (r : Reply TypedValue)
  /-- resolveSetField, setFieldBySignature, arraySet of a reference, arraySetRegion, monitorExit: success or a failure. -/
  | done (r : Reply Unit)
  /-- shorty-descriptor lookup. -/
  | shorty (sh : Shorty)
  /-- arrayElementType. -/
  | elemKind (k : ElemKind)
  /-- isInterpretable, isInstanceOf. -/
  | bool (b : Bool)
  /-- methodInfo. -/
  | info (m : MethodInfo)
  /-- arrayLength, a u32. -/
  | length (n : Word32)
  /-- arrayGet: the element's bits, read by the element code asked for. -/
  | element (bits : Word64)
  /-- monitorEnter. -/
  | monitor (r : MonitorReply)
  /-- Host.call. -/
  | call (r : CallReply)
deriving DecidableEq, Repr, Inhabited

/-! ### Exceptions' information and requests -/

/-- What was null in an X1 NULL_POINTER (R601). -/
inductive NullWhat where
  | array | object | throw | receiver | monitor
deriving DecidableEq, Repr, Inhabited

/-- The exceptions for which the engine asks the host for a new exception object (R601 rows X1 to X6, R603), each with
the row's info. -/
inductive NewException where
  | nullPointer (what : NullWhat)
  | arrayIndex (length : Nat) (index : Int)
  | negativeArraySize (length : Int)
  | classCast (actual desired : Handle)
  | arithmetic
  | internalError (kind : ElemKind)
deriving DecidableEq, Repr, Inhabited

/-- The values an `arraySetRegion` sends (R477, R478): a width in bytes with raw elements, ints, or handles. -/
inductive RegionValues where
  | raw (width : Nat) (elements : List Word64)
  | ints (elements : List Word32)
  | refs (kind : ElemKind) (elements : List Handle)
deriving DecidableEq, Repr, Inhabited

/-- The transactions the engine issues on the ports `Res` and `Host` (R66, R67). -/
inductive Request where
  | resolveClass (typeIndex : Nat)
  | resolveMethod (methodIndex : Nat) (isStatic : Bool)
  | resolveString (stringIndex : Nat)
  | resolveField (fieldIndex : Nat) (inst : Handle)
  | resolveSetField (fieldIndex : Nat) (inst : Handle) (v : TypedValue)
  | allocArray (length : Nat) (typeIndex : Nat)
  | shorty (method : Handle)
  | arrayElementType (typeIndex : Nat)
  | isInterpretable (method : Handle)
  | methodInfo (method : Handle)
  | selectTarget (kind : InvokeKind) (method receiver : Handle)
  | isInstanceOf (h cls : Handle)
  | classOf (h : Handle)
  | arrayLength (arr : Handle)
  | arrayGet (arr : Handle) (code : TypeCode) (index : Int)
  | arraySet (arr : Handle) (index : Int) (v : TypedValue)
  | arraySetRegion (arr : Handle) (start count : Nat) (values : RegionValues)
  | newObject (cls : Handle)
  | monitorEnter (h : Handle)
  | monitorExit (h : Handle)
  | getFieldBySignature (h : Handle) (signature : Handle) (code : TypeCode)
  | setFieldBySignature (h : Handle) (signature : Handle) (v : TypedValue)
  | exceptionOccurred
  | exceptionClear
  | throwNew (x : NewException)
  | throwHandle (e : Handle)
  | call (kind : InvokeKind) (method : Handle) (receiver : Option Handle) (args : List TypedValue) (sh : Shorty)
deriving DecidableEq, Repr, Inhabited

/-! ### Implementation parameters marked OPEN (R7) -/

/-- MONITOR_NULL: what monitor-enter and monitor-exit do on NULL (R7, R455). -/
inductive MonitorNull where
  | fault | npe
deriving DecidableEq, Repr, Inhabited

/-- The OPEN parameters a model takes as arguments (R7): MAX_DEPTH and MONITOR_NULL. They are fixed for the machine. -/
structure Params where
  maxDepth : Nat
  monitorNull : MonitorNull
deriving DecidableEq, Repr, Inhabited

end Sys2Proof.Machine
end

