-- ==== Sys2Proof/Config.lean ====
section
/-! DEFINITION. What the spec leaves open (spec/00_scope.md R7, spec/93_implementation_defined.md I8, I9, I10, I19): the
OPEN parameters, the NaN patterns a floating-point operation produces, and the answers of the two collaborators where
the state holds none ready. Each is an opaque constant: nothing in Lean can evaluate it, so a statement about it holds
for every value. The ones of type `Nat → …` are applied to the state's draw counter, a fresh value each time
(assumptions 1, 2 and 3). -/

namespace Sys2Proof.Config
open Sys2Proof.Machine

/-- MAX_DEPTH less one (R7: MAX_DEPTH is at least 1). -/
opaque extraDepth : Nat

/-- MONITOR_NULL (R7, R455). -/
opaque monitorNull : MonitorNull

/-- The machine's OPEN parameters (R7). -/
def params : Params := { maxDepth := extraDepth + 1, monitorNull := monitorNull }

/-- NAN_PAYLOAD for binary32 (R7, R352): any pattern; the operation that uses it makes a NaN of it. -/
opaque freeNaN32 : Nat → Word32

/-- NAN_PAYLOAD for binary64 (R7, R352). -/
opaque freeNaN64 : Nat → Word64

/-! Free answers of the collaborators (R66, R67, I19), one per kind of answer. -/

/-- A free handle or failure. -/
opaque freeRef : Nat → Reply Handle
/-- A free handle. -/
opaque freeHandle : Nat → Handle
/-- A free field value or failure. -/
opaque freeField : Nat → Reply TypedValue
/-- A free success or failure. -/
opaque freeDone : Nat → Reply Unit
/-- A free shorty descriptor. -/
opaque freeShorty : Nat → Shorty
/-- A free element kind. -/
opaque freeElemKind : Nat → ElemKind
/-- A free boolean. -/
opaque freeBool : Nat → Bool
/-- A free method descriptor. -/
opaque freeInfo : Nat → MethodInfo
/-- A free array length. -/
opaque freeLength : Nat → Word32
/-- A free array element. -/
opaque freeElement : Nat → Word64
/-- A free monitor answer. -/
opaque freeMonitor : Nat → MonitorReply
/-- A free answer to a host call. -/
opaque freeCall : Nat → CallReply

end Sys2Proof.Config
end

