-- ==== Sys2Proof/Machine/State.lean ====
section
/-! DEFINITION. The state of the bytecode dispatch engine (spec/10_state.md, spec/70_reset_and_hazards.md): the stack of
activations with their register files and control state, the engine's fault register, and what stands at the three ports.
All of it is plain data. The opcode table OPT is constant (R59, R178) and stands in Sys2Proof/Decode.lean; the scratch
cells are omitted as R57 permits. -/

namespace Sys2Proof.Machine

/-! ### The instruction stream (R80 to R86) -/

/-- The bytes of one method's instruction stream: byte offsets strictly rising, no byte zero. A byte that is not listed
and lies inside the stream reads as zero; a byte outside it does not exist (`Memory.read`). -/
structure Memory where
  cells : List Host.Cell
deriving DecidableEq, Repr, Inhabited

/-! ### Register file (R32, R48) -/

/-- A register slot: its 64-bit storage word `x[i]` and its written bit `W[i]`. -/
structure Slot where
  word : Word64
  written : Bool
deriving DecidableEq, Repr, Inhabited

/-! ### Control state (R53 to R58) -/

/-- The activation status ST (R53). -/
inductive Status where
  | run | throwing | calling | finished
deriving DecidableEq, Repr, Inhabited

/-- The two-bit encoding of ST (R53). -/
def Status.encoding : Status → BitVec 2
  | .run => 0 | .throwing => 1 | .calling => 2 | .finished => 3

/-- The fields an invoke stages (R56, R551 step 7), with the return code of the resolved method's shorty, by which a host
call's result is typed (R564). -/
structure StagedCall where
  kind : InvokeKind
  form : ArgForm
  target : Handle
  args : List TypedValue
  ret : Option TypeCode
deriving DecidableEq, Repr, Inhabited

/-- The invoke state INV (R56). -/
inductive Inv where
  | idle
  | decodingArgs (kind : InvokeKind) (form : ArgForm)
  | callHost (call : StagedCall)
  | callInterpreted (call : StagedCall)
deriving DecidableEq, Repr, Inhabited

/-- The method an activation runs (R60): its instruction stream of `len` code units, NREG, NINS, shorty, whether it is
static, and its exception-handler table. The engine never writes it. -/
structure Method where
  code : Memory
  len : Nat
  nreg : Nat
  nins : Nat
  shorty : Shorty
  isStatic : Bool
  tries : List TryRange
deriving DecidableEq, Repr, Inhabited

/-- An activation (R16, R31): register file, cursor, ST, EXC, RV with RVW, INV, the return value a return handler has
staged (R446), and the method it runs. -/
structure Activation where
  regs : List Slot
  pc : Nat
  st : Status
  exc : Option Handle
  rv : Word64
  rvw : Bool
  inv : Inv
  ret : ReturnValue
  method : Method
deriving DecidableEq, Repr, Inhabited

/-- What an F7 UNINIT_READ names (R610): a register, or RV. -/
inductive Uninit where
  | slot (i : Nat)
  | rv
deriving DecidableEq, Repr, Inhabited

/-- The internal faults F1 to F11 with their info (R610). A fault is recorded in the register FAULT (R58, R611). -/
inductive EngineFault where
  /-- F1 UNKNOWN_OPCODE. -/
  | unknownOpcode (op : BitVec 8) (pc0 : Nat)
  /-- F2 BAD_MAGIC: the table's address and the unit found there. -/
  | badMagic (table : Int) (unit : CodeUnit)
  /-- F3 PC_RANGE: the offending offset. -/
  | pcRange (offset : Int)
  /-- F4 PARAM_MISMATCH. -/
  | paramMismatch (pc0 : Nat)
  /-- F5 NO_PENDING_EXCEPTION. -/
  | noPendingException (pc0 : Nat)
  /-- F6 REG_RANGE. -/
  | regRange (i : Nat)
  /-- F7 UNINIT_READ. -/
  | uninitRead (what : Uninit)
  /-- F8 BAD_TABLE: the table's address. -/
  | badTable (table : Int)
  /-- F9 MALFORMED. -/
  | malformed (pc0 : Nat)
  /-- F10 DEPTH. -/
  | depth (pc0 : Nat)
  /-- F11 NULL_MONITOR. -/
  | nullMonitor (pc0 : Nat)
deriving DecidableEq, Repr, Inhabited

/-- The number n of the code F<n> (R610). -/
def EngineFault.code : EngineFault → Nat
  | .unknownOpcode _ _ => 1 | .badMagic _ _ => 2 | .pcRange _ => 3 | .paramMismatch _ => 4
  | .noPendingException _ => 5 | .regRange _ => 6 | .uninitRead _ => 7 | .badTable _ => 8
  | .malformed _ => 9 | .depth _ => 10 | .nullMonitor _ => 11

/-! ### Ports (R62, R66 to R68) -/

/-- What the engine last handed to the host at the end of a chain or of the run (R182, R631). -/
inductive Delivered where
  | returned (v : ReturnValue)
  | raised (e : Handle)
  | aborted (f : EngineFault)
deriving DecidableEq, Repr, Inhabited

/-- What stands at the ports. -/
structure Ports where
  /-- The host's exception-raised state (R62). -/
  hostExc : Option Handle
  /-- The host's entry calls that wait, oldest first (R68, R703). -/
  entries : List EntryCall
  /-- The last thing delivered to the host. -/
  delivered : Option Delivered
  /-- The answers that stand ready, oldest first (R66, R67). -/
  answers : List Answer
  /-- The transactions the engine has issued, newest first (R94). -/
  issued : List Request
  /-- The host calls that are outstanding because the host has re-entered the engine inside them, newest first (R705). The
  step of the invoke that made one ends when it is answered (R563), so until then that activation stands as its step
  found it, below the activations of the chain. -/
  calls : List StagedCall
  /-- How many free values have been drawn. -/
  draws : Nat
deriving DecidableEq, Repr, Inhabited

/-- The engine's state. The head of `stack` is the current activation (R30); `params` are the OPEN parameters (R7),
which no step changes. -/
structure State where
  stack : List Activation
  fault : Option EngineFault
  ports : Ports
  params : Params
deriving DecidableEq, Repr, Inhabited

/-- Engine construction (R700): no activation, no fault. The ports hold nothing yet; the parameters are the
configuration's. -/
def State.reset : State :=
  { stack := [], fault := none,
    ports := { hostExc := none, entries := [], delivered := none, answers := [], issued := [], calls := [], draws := 0 },
    params := Config.params }

/-! ### Stops -/

/-- Why the machine takes no step, or an instruction is run where there is nothing to run it on. No instruction stops on
every path: the internal faults F1 to F11 are recorded in FAULT by a next state. -/
inductive Fault where
  /-- Raised by `step` while FAULT is set: no engine step is enabled (R58, R611, R706). Safe: the engine has stopped. -/
  | engineStopped (f : EngineFault)
  /-- Raised by `exec` on a state with no activation: there is no instruction to run (R170). Safe: `step` never calls
  it so. -/
  | noActivation
  /-- Raised by `step` on an activation in THROWING status with EXC empty, a state no run reaches (R602). Safe. -/
  | throwingWithoutException
  /-- Raised by `step` on a top activation in CALLING status, which R170 says is not possible. Safe. -/
  | callingOnTop
  /-- Raised by `step` when a chain ends above an activation that neither waits for a callee nor has a host call
  outstanding, a state no run reaches (R705). Safe. -/
  | noOutstandingCall
  /-- Raised by `exec` of a monitor-enter that the host never answers: the engine waits and takes no step, "stuck" (R456).
  Safe: the engine goes no further. -/
  | monitorUnanswered
deriving DecidableEq, Repr

/-- Why an instruction has no meaning. -/
inductive Refusal where
  /-- The instruction is rejected by its mnemonic; raised by an arm of `exec` that has no meaning yet. No arm does. Safe:
  nothing is claimed of it. -/
  | notModelled (mnemonic : String)
deriving DecidableEq, Repr

/-- The outcome of a step. -/
abbrev StepResult := Host.Outcome State Fault Refusal

end Sys2Proof.Machine
end

