-- ==== Sys2Proof/Machine/Memory.lean ====
section
/-! DEFINITION. The instruction stream as memory (spec/20_memory.md): reading a byte, a run of bytes and a code unit, the
stream a list of code units makes, and writing a byte (which no instruction does, R101; it stands for the load of an image
from outside). The stored form is canonical: offsets strictly rising, no byte equal to what an unlisted byte reads as. -/

namespace Sys2Proof.Machine

/-- What a byte of the stream that is not listed reads as. Every stream is given whole by the collaborator (R81), so this
is a convention of the stored form, not a value of the machine's. -/
def Memory.unlisted : Byte := 0#8

/-- The byte listed at an offset, or `unlisted`. -/
def Memory.byteIn : List Host.Cell → Nat → Byte
  | [], _ => Memory.unlisted
  | (a, b) :: cs, k => if a = k then b else Memory.byteIn cs k

/-- The byte at an offset inside the stream. -/
def Memory.byte (m : Memory) (k : Nat) : Byte := Memory.byteIn m.cells k

/-- The cells after storing byte `b` at offset `k`; storing what an unlisted byte reads as removes the entry. -/
def Memory.writeCells : List Host.Cell → Nat → Byte → List Host.Cell
  | [], k, b => if b = Memory.unlisted then [] else [(k, b)]
  | (a, v) :: cs, k, b =>
    if k < a then if b = Memory.unlisted then (a, v) :: cs else (k, b) :: (a, v) :: cs
    else if k = a then if b = Memory.unlisted then cs else (k, b) :: cs
    else (a, v) :: Memory.writeCells cs k b

/-- The memory after storing one byte. -/
def Memory.write (m : Memory) (k : Nat) (b : Byte) : Memory := { cells := Memory.writeCells m.cells k b }

/-- The cells of a byte sequence that starts at an offset. -/
def Memory.cellsFrom : Nat → List Byte → List Host.Cell
  | _, [] => []
  | k, b :: bs => if b = Memory.unlisted then Memory.cellsFrom (k + 1) bs else (k, b) :: Memory.cellsFrom (k + 1) bs

/-- The stream of a method's code units, low byte first (R83). -/
def Memory.ofUnits (units : List CodeUnit) : Memory := { cells := Memory.cellsFrom 0 (bytesOfUnits units) }

/-- The cells are listed at strictly rising offsets from `lo` up, none equal to an unlisted byte. -/
def Memory.wfFrom : Nat → List Host.Cell → Bool
  | _, [] => true
  | lo, (a, b) :: cs => decide (lo ≤ a) && decide (b ≠ Memory.unlisted) && Memory.wfFrom (a + 1) cs

/-- The canonical form. -/
def Memory.wf (m : Memory) : Bool := Memory.wfFrom 0 m.cells

/-- Every listed offset is below a bound. -/
def Memory.below (n : Nat) (m : Memory) : Bool := m.cells.all fun c => decide (c.1 < n)

/-- A checked read or write: a value, or the internal fault it raises. -/
abbrev Checked := Except EngineFault

/-- `CU(k)` (R82, R83): the code unit at offset `k`, or F3(k) outside 0 to L − 1. -/
def Method.unit (m : Method) (k : Int) : Checked CodeUnit :=
  if 0 ≤ k ∧ k < m.len then
    .ok (m.code.byte (2 * k.toNat + 1) ++ m.code.byte (2 * k.toNat))
  else .error (.pcRange k)

/-- The bytes at offsets `a` to `a + n − 1` as one number, byte `a` lowest. -/
def Memory.little (m : Memory) (a : Nat) : Nat → Nat
  | 0 => 0
  | n + 1 => (m.byte a).toNat + 256 * Memory.little m (a + 1) n

/-- `MemRead(a, n)` (R83): n bytes little-endian, or F3(a) if any lies outside 0 to 2L − 1. -/
def Method.memRead (m : Method) (a : Int) (n : Nat) : Checked Nat :=
  if n = 0 ∨ (0 ≤ a ∧ a + n ≤ 2 * m.len) then .ok (m.code.little a.toNat n) else .error (.pcRange a)

/-- A 32-bit value at unit `k`, `CU(k+1) ++ CU(k)` (R85), its units read in the order written. -/
def Method.unit32 (m : Method) (k : Int) : Checked Word32 := do
  let hi ← m.unit (k + 1)
  let lo ← m.unit k
  return hi ++ lo

/-- The 32-bit values at units `k`, `k + 2`, …, `n` of them. -/
def Method.units32 (m : Method) (k : Int) : Nat → Checked (List Word32)
  | 0 => .ok []
  | n + 1 => do
    let v ← m.unit32 k
    let vs ← m.units32 (k + 2) n
    return v :: vs

/-- The elements of a fill-array-data table: `n` of `width` bytes each, from byte offset `a` (R476). -/
def Method.elements (m : Method) (width : Nat) (a : Int) : Nat → Checked (List Word64)
  | 0 => .ok []
  | n + 1 => do
    let v ← m.memRead a width
    let vs ← m.elements width (a + width) n
    return BitVec.ofNat 64 v :: vs

/-- The memory after storing bytes from an offset on. -/
def Memory.writeAll (m : Memory) (k : Nat) : List Byte → Memory
  | [] => m
  | b :: bs => (m.write k b).writeAll (k + 1) bs

/-- The method with code units stored from unit `k` on: the load of an image from outside. -/
def Method.withUnits (m : Method) (k : Nat) (units : List CodeUnit) : Method :=
  { m with code := m.code.writeAll (2 * k) (bytesOfUnits units), len := max m.len (k + units.length) }

end Sys2Proof.Machine
end

