-- ==== Sys2Proof/Machine/Operands.lean ====
section
/-! DEFINITION. Operand forms (spec/10_state.md R35 to R49, R55; spec/46_invoke.md R551, R554, R555, R572): the typed
views of the register file, narrow typed values, argument words and lists, and the return-value cell's word. -/

namespace Sys2Proof.Machine

/-! ### The views of a slot (R35 to R45)

Every accessor checks the index first (F6), a read then the written bit (F7). A pair's F6 names its first register. -/

/-- Slot `i` whole: `check(i); require W[i]; x[i]`. -/
def Activation.slot (a : Activation) (i : Nat) : Checked Word64 :=
  match a.regs[i]? with
  | none => .error (.regRange i)
  | some r => if r.written then .ok r.word else .error (.uninitRead (.slot i))

/-- `I32(i)` (R36); `F32(i)` is the same bits (R40). -/
def Activation.i32 (a : Activation) (i : Nat) : Checked Word32 := (a.slot i).map (·.setWidth 32)

/-- `I64(i)` (R38), low half in slot i; `F64(i)` is the same bits (R42). -/
def Activation.i64 (a : Activation) (i : Nat) : Checked Word64 :=
  if i + 1 < a.regs.length then do
    let lo ← a.slot i
    let hi ← a.slot (i + 1)
    return hi.setWidth 32 ++ lo.setWidth 32
  else .error (.regRange i)

/-- `Ref(i)` (R44). -/
def Activation.ref (a : Activation) (i : Nat) : Checked Handle := a.slot i

/-- `x[i] <- w; W[i] <- 1`, the index checked by the caller. -/
def Activation.putSlot (a : Activation) (i : Nat) (w : Word64) : Activation :=
  { a with regs := a.regs.set i { word := w, written := true } }

/-- What `setI32` stores (R37). -/
def Activation.putI32 (a : Activation) (i : Nat) (v : Word32) : Activation := a.putSlot i (v.signExtend 64)

/-- What `setF32` stores (R41). -/
def Activation.putF32 (a : Activation) (i : Nat) (v : Word32) : Activation := a.putSlot i (v.setWidth 64)

/-- What `setI64` stores (R39); `setF64` is the same (R43). -/
def Activation.putI64 (a : Activation) (i : Nat) (v : Word64) : Activation :=
  (a.putSlot i ((v.extractLsb' 0 32).setWidth 64)).putSlot (i + 1) ((v.extractLsb' 32 32).setWidth 64)

/-- `setI32(i, v)` (R37). -/
def Activation.setI32 (a : Activation) (i : Nat) (v : Word32) : Checked Activation :=
  if i < a.regs.length then .ok (a.putI32 i v) else .error (.regRange i)

/-- `setF32(i, f)` (R41). -/
def Activation.setF32 (a : Activation) (i : Nat) (v : Word32) : Checked Activation :=
  if i < a.regs.length then .ok (a.putF32 i v) else .error (.regRange i)

/-- `setI64(i, v)` (R39). -/
def Activation.setI64 (a : Activation) (i : Nat) (v : Word64) : Checked Activation :=
  if i + 1 < a.regs.length then .ok (a.putI64 i v) else .error (.regRange i)

/-- `setRef(i, h)` (R45). -/
def Activation.setRef (a : Activation) (i : Nat) (h : Handle) : Checked Activation :=
  if i < a.regs.length then .ok (a.putSlot i h) else .error (.regRange i)

/-! ### Narrow typed values (R47) -/

/-- `widen(T, n)`: a narrow host value into a 32-bit register value. -/
def widen (c : Code32) (n : Word32) : Word32 :=
  match c with
  | .Z => (n.extractLsb' 0 8).setWidth 32
  | .B => (n.extractLsb' 0 8).signExtend 32
  | .C => (n.extractLsb' 0 16).setWidth 32
  | .S => (n.extractLsb' 0 16).signExtend 32
  | .I => n
  | .F => n

/-- `narrow(T, v)`: a register value out to the host, the narrow value in the low bits. -/
def narrow (c : Code32) (v : Word32) : Word32 :=
  match c with
  | .Z => (v.extractLsb' 0 8).setWidth 32
  | .B => (v.extractLsb' 0 8).setWidth 32
  | .C => (v.extractLsb' 0 16).setWidth 32
  | .S => (v.extractLsb' 0 16).setWidth 32
  | .I => v
  | .F => v

/-! ### The return-value cell (R55, R572) -/

/-- The 64-bit word RV holds for a value. -/
def TypedValue.rvWord : TypedValue → Word64
  | .w32 .F bits => bits.setWidth 64
  | .w32 c bits => (widen c bits).signExtend 64
  | .w64 _ bits => bits
  | .ref h => h

/-- RV and RVW after a call that returned: void clears RVW and leaves the word. -/
def Activation.putResult (a : Activation) (r : ReturnValue) : Activation :=
  match r with
  | .void => { a with rvw := false }
  | .value v => { a with rv := v.rvWord, rvw := true }

/-- A host call's answer as a value of the shorty's return code (R564). -/
def hostResult (ret : Option TypeCode) (bits : Word64) : ReturnValue :=
  match ret with
  | none => .void
  | some (.w32 c) => .value (.w32 c (bits.setWidth 32))
  | some (.w64 c) => .value (.w64 c bits)
  | some .L => .value (.ref bits)

/-! ### Argument words and lists -/

/-- Slots of a value of a code: 2 for J and D, 1 for the others (R551 step 4). -/
def TypeCode.width : TypeCode → Nat
  | .w64 _ => 2
  | _ => 1

/-- The code of a typed value (R69). -/
def TypedValue.code : TypedValue → TypeCode
  | .w32 c _ => .w32 c
  | .w64 c _ => .w64 c
  | .ref _ => .L

/-- Words of a parameter list (R551 step 4). -/
def paramWords (codes : List TypeCode) : Nat := (codes.map TypeCode.width).sum

/-- Words of an argument list (R703 step 2). -/
def argWords (args : List TypedValue) : Nat := (args.map fun v => v.code.width).sum

/-- The argument registers of the packed form (R554): the first A of C, D, E, F, G. -/
def packedRegs (a c d e f g : BitVec 4) : List Nat :=
  [c.toNat, d.toNat, e.toNat, f.toNat, g.toNat].take a.toNat

/-- The argument registers of the range form (R555), computed in ℤ. -/
def rangeRegs (count : BitVec 8) (first : BitVec 16) : List Nat :=
  (List.range count.toNat).map (first.toNat + ·)

/-- The value of a code that a register holds, narrowed as the code says (R506, R560). -/
def Activation.typed (a : Activation) (c : TypeCode) (r : Nat) : Checked TypedValue :=
  match c with
  | .w32 k => (a.i32 r).map fun v => .w32 k (narrow k v)
  | .w64 k => (a.i64 r).map (.w64 k)
  | .L => (a.ref r).map .ref

/-- The declared parameters read from the argument registers (R556, R557, R560). A wide parameter is the pair at its first
register and passes over the next word of the list. The words are counted before (R558), so the list does not run out. -/
def Activation.params (a : Activation) : List TypeCode → List Nat → Checked (List TypedValue)
  | c :: cs, r :: rs => do
    let v ← a.typed c r
    let vs ← a.params cs (rs.drop (c.width - 1))
    return v :: vs
  | _, _ => .ok []

/-- Registers read as ints, in order. -/
def Activation.i32s (a : Activation) : List Nat → Checked (List Word32)
  | [] => .ok []
  | r :: rs => do
    let v ← a.i32 r
    let vs ← a.i32s rs
    return v :: vs

/-- Registers read as references, in order. -/
def Activation.refs (a : Activation) : List Nat → Checked (List Handle)
  | [] => .ok []
  | r :: rs => do
    let v ← a.ref r
    let vs ← a.refs rs
    return v :: vs

/-- One parameter slot written from a typed value (R562 step 3), with the number of the next. -/
def Activation.putArg (a : Activation) (p : Nat) (v : TypedValue) : Checked (Activation × Nat) :=
  match v with
  | .w32 .F bits => (a.setF32 p bits).map (·, p + 1)
  | .w32 c bits => (a.setI32 p (widen c bits)).map (·, p + 1)
  | .w64 _ bits => (a.setI64 p bits).map (·, p + 2)
  | .ref h => (a.setRef p h).map (·, p + 1)

/-- The parameter slots written from an argument list, in order, from slot `p` (R562 step 3, R703 step 4). -/
def Activation.putArgs (a : Activation) (p : Nat) : List TypedValue → Checked Activation
  | [] => .ok a
  | v :: vs => do
    let (a', p') ← a.putArg p v
    a'.putArgs p' vs

end Sys2Proof.Machine
end

