-- ==== Sys2Proof/Machine/Ops.lean ====
section
/-! DEFINITION. The shared operations of the engine: port transactions (spec/10_state.md R66, R67), the handler's reads
and writes (spec/40_dispatch.md R174 to R183), taking an exception and resuming at a catch target
(spec/60_exceptions.md), and starting and ending activations (spec/46_invoke.md, spec/70_reset_and_hazards.md).

A handler works on the top activation and the ports. It ends normally, or with one of the other outcomes of
spec/00_scope.md R12; `settle` turns the ending into the next state. -/

namespace Sys2Proof.Machine

/-! ### Port transactions (R62, R66, R67, R94, R604)

A transaction is logged, then answered by the head of the ready answers if that is an answer of its kind, else by a free
value of its kind (assumption 1). A failing answer and a new exception object set the host's exception-raised state; after
every transaction the engine asks for that state and clears what it finds. -/

/-- An operation on the ports. -/
abbrev Port := StateM Ports

/-- The next free number. -/
def drawFree : Port Nat := fun p => (p.draws, { p with draws := p.draws + 1 })

/-- Take an answer of the kind `pick` selects. -/
def takeAnswer {α : Type} (pick : Answer → Option α) (free : Nat → α) : Port α := fun p =>
  match p.answers with
  | [] => (free p.draws, { p with draws := p.draws + 1 })
  | a :: rest =>
    match pick a with
    | some v => (v, { p with answers := rest })
    | none => (free p.draws, { p with draws := p.draws + 1 })

/-- Log a transaction. -/
def issue (r : Request) : Port Unit := fun p => ((), { p with issued := r :: p.issued })

/-- What the host does to its exception-raised state as it answers: it raises `e`, or nothing (R604). -/
def hostRaise (e : Option Handle) : Port Unit := fun p =>
  match e with
  | none => ((), p)
  | some h => ((), { p with hostExc := some h })

/-- `Host.exceptionOccurred`, and `Host.exceptionClear` when there is one: the exception the engine picks up (R604). -/
def pickUp : Port (Option Handle) := fun p =>
  match p.hostExc with
  | none => (none, { p with issued := .exceptionOccurred :: p.issued })
  | some e => (some e, { p with hostExc := none, issued := .exceptionClear :: .exceptionOccurred :: p.issued })

/-- An answer, with what it raises in the host, and the engine's check after it. -/
def answered {α : Type} (pick : Answer → Option α) (free : Nat → α) (raised : α → Option Handle) :
    Port (α × Option Handle) := do
  let v ← takeAnswer pick free
  hostRaise (raised v)
  let e ← pickUp
  return (v, e)

/-- The exception a failing answer raises in the host. -/
def Reply.raised {α : Type} : Reply α → Option Handle
  | .ok _ => none
  | .fails e => some e

/-- A transaction that has no failure answer. -/
def query {α : Type} (r : Request) (pick : Answer → Option α) (free : Nat → α) : Port α := do
  issue r
  let (v, _) ← answered pick free fun _ => none
  return v

/-- A transaction that may fail: what the engine picks up is its failure. -/
def attempt {α : Type} (r : Request) (pick : Answer → Option (Reply α)) (free : Nat → Reply α) : Port (Reply α) := do
  issue r
  let (v, e) ← answered pick free Reply.raised
  return match e with
    | some h => .fails h
    | none => v

/-- A transaction without an answer. -/
def send (r : Request) : Port Unit := do
  issue r
  let _ ← pickUp
  return ()

/-- A ready handle or failure. -/
def Answer.ref? : Answer → Option (Reply Handle) | .ref r => some r | _ => none
/-- A ready handle. -/
def Answer.handle? : Answer → Option Handle | .handle h => some h | _ => none
/-- A ready field value or failure. -/
def Answer.field? : Answer → Option (Reply TypedValue) | .field r => some r | _ => none
/-- A ready success or failure. -/
def Answer.done? : Answer → Option (Reply Unit) | .done r => some r | _ => none
/-- A ready shorty. -/
def Answer.shorty? : Answer → Option Shorty | .shorty s => some s | _ => none
/-- A ready element kind. -/
def Answer.elemKind? : Answer → Option ElemKind | .elemKind k => some k | _ => none
/-- A ready boolean. -/
def Answer.bool? : Answer → Option Bool | .bool b => some b | _ => none
/-- A ready method descriptor. -/
def Answer.info? : Answer → Option MethodInfo | .info m => some m | _ => none
/-- A ready array length. -/
def Answer.length? : Answer → Option Word32 | .length n => some n | _ => none
/-- A ready array element. -/
def Answer.element? : Answer → Option Word64 | .element w => some w | _ => none
/-- A ready monitor answer. -/
def Answer.monitor? : Answer → Option MonitorReply | .monitor r => some r | _ => none
/-- A ready answer to a host call. -/
def Answer.call? : Answer → Option CallReply | .call r => some r | _ => none

/-- `Res.resolveClass`. -/
def resolveClass (i : Nat) : Port (Reply Handle) := attempt (.resolveClass i) Answer.ref? Config.freeRef
/-- `Res.resolveMethod`. -/
def resolveMethod (i : Nat) (isStatic : Bool) : Port (Reply Handle) :=
  attempt (.resolveMethod i isStatic) Answer.ref? Config.freeRef
/-- `Res.resolveString`, which has no failure answer. -/
def resolveString (i : Nat) : Port Handle := query (.resolveString i) Answer.handle? Config.freeHandle
/-- `Res.resolveField`. -/
def resolveField (i : Nat) (inst : Handle) : Port (Reply TypedValue) :=
  attempt (.resolveField i inst) Answer.field? Config.freeField
/-- `Res.resolveSetField`. -/
def resolveSetField (i : Nat) (inst : Handle) (v : TypedValue) : Port (Reply Unit) :=
  attempt (.resolveSetField i inst v) Answer.done? Config.freeDone
/-- `Res.allocArray`. -/
def allocArray (n : Nat) (typeIndex : Nat) : Port (Reply Handle) :=
  attempt (.allocArray n typeIndex) Answer.ref? Config.freeRef
/-- The shorty-descriptor lookup. -/
def shortyOf (m : Handle) : Port Shorty := query (.shorty m) Answer.shorty? Config.freeShorty
/-- `Res.arrayElementType`. -/
def arrayElementType (typeIndex : Nat) : Port ElemKind :=
  query (.arrayElementType typeIndex) Answer.elemKind? Config.freeElemKind
/-- `Res.isInterpretable`. -/
def isInterpretable (m : Handle) : Port Bool := query (.isInterpretable m) Answer.bool? Config.freeBool
/-- A method descriptor within the ranges of R7: a register count from 1 to REG_MAX, no more parameter slots than
registers, at most CODE_MAX code units. A descriptor within them is itself (assumption 25). -/
def MethodInfo.bounded (m : MethodInfo) : MethodInfo :=
  let nreg := max 1 (min m.nreg regMax)
  { m with units := m.units.take codeMax, nreg := nreg, nins := min m.nins nreg }

/-- `Res.methodInfo`. -/
def methodInfo (m : Handle) : Port MethodInfo := do
  let info ← query (.methodInfo m) Answer.info? Config.freeInfo
  return info.bounded
/-- `Res.selectTarget`. -/
def selectTarget (k : InvokeKind) (m recv : Handle) : Port (Reply Handle) :=
  attempt (.selectTarget k m recv) Answer.ref? Config.freeRef
/-- `Host.isInstanceOf`. -/
def isInstanceOf (h cls : Handle) : Port Bool := query (.isInstanceOf h cls) Answer.bool? Config.freeBool
/-- `Host.classOf`. -/
def classOf (h : Handle) : Port Handle := query (.classOf h) Answer.handle? Config.freeHandle
/-- `Host.arrayLength`. -/
def arrayLength (arr : Handle) : Port Word32 := query (.arrayLength arr) Answer.length? Config.freeLength
/-- `Host.arrayGet`. -/
def arrayGet (arr : Handle) (code : TypeCode) (i : Int) : Port Word64 :=
  query (.arrayGet arr code i) Answer.element? Config.freeElement
/-- `Host.arraySet` of a primitive element, which has no failure answer (assumption 29). -/
def arraySet (arr : Handle) (i : Int) (v : TypedValue) : Port Unit := send (.arraySet arr i v)
/-- `Host.arraySet` of a reference, which the host may refuse. -/
def arraySetRef (arr : Handle) (i : Int) (h : Handle) : Port (Reply Unit) :=
  attempt (.arraySet arr i (.ref h)) Answer.done? Config.freeDone
/-- `Host.arraySetRegion`, which the host may refuse (R67, assumption 29). -/
def arraySetRegion (arr : Handle) (start count : Nat) (values : RegionValues) : Port (Reply Unit) :=
  attempt (.arraySetRegion arr start count values) Answer.done? Config.freeDone
/-- `Host.newObject`. -/
def newObject (cls : Handle) : Port (Reply Handle) := attempt (.newObject cls) Answer.ref? Config.freeRef
/-- `Host.monitorExit`. -/
def monitorExitOn (h : Handle) : Port (Reply Unit) := attempt (.monitorExit h) Answer.done? Config.freeDone
/-- `Host.throwNewByClassName` (R603). -/
def throwNew (x : NewException) : Port Handle := do
  issue (.throwNew x)
  let (h, e) ← answered Answer.handle? Config.freeHandle some
  return e.getD h
/-- The next answer to an outstanding `Host.call`. The check of R604 comes when the call is answered, not when the host
re-enters the engine inside it. -/
def callAnswer : Port CallReply := do
  match ← takeAnswer Answer.call? Config.freeCall with
  | .reenters entry => return .reenters entry
  | .returns bits => do
    match ← pickUp with
    | some e => return .fails e
    | none => return .returns bits
  | .fails e => do
    hostRaise (some e)
    let _ ← pickUp
    return .fails e
/-- The exception a failing monitor-enter raises in the host. -/
def MonitorReply.raised : MonitorReply → Option Handle
  | .fails e => some e
  | _ => none
/-- `Host.monitorEnter`. -/
def monitorEnterOn (h : Handle) : Port MonitorReply := do
  issue (.monitorEnter h)
  let (r, e) ← answered Answer.monitor? Config.freeMonitor MonitorReply.raised
  return match e with
    | some x => .fails x
    | none => r
/-- `Host.get-field-by-signature` (R67). No instruction's rule issues it (assumption 37). -/
def getFieldBySignature (h signature : Handle) (code : TypeCode) : Port (Reply TypedValue) :=
  attempt (.getFieldBySignature h signature code) Answer.field? Config.freeField
/-- `Host.set-field-by-signature` (R67). No instruction's rule issues it (assumption 37). -/
def setFieldBySignature (h signature : Handle) (v : TypedValue) : Port (Reply Unit) :=
  attempt (.setFieldBySignature h signature v) Answer.done? Config.freeDone
/-- `Host.throw(e)` (R631): the host's exception-raised state becomes e. -/
def hostThrow (e : Handle) : Port Unit := fun p =>
  ((), { p with hostExc := some e, issued := .throwHandle e :: p.issued })
/-- A free NaN draw for binary32 (R352). -/
def drawNaN32 : Port Word32 := fun p => (Config.freeNaN32 p.draws, { p with draws := p.draws + 1 })
/-- A free NaN draw for binary64 (R352). -/
def drawNaN64 : Port Word64 := fun p => (Config.freeNaN64 p.draws, { p with draws := p.draws + 1 })

/-! ### Handlers (R174, R180) -/

/-- What a handler works on: the top activation, the callee it has pushed, the depth of the stack, and the ports. -/
structure Ctx where
  top : Activation
  callee : Option Activation
  depth : Nat
  ports : Ports
  params : Params
deriving DecidableEq, Repr

/-- How a handler ends when it does not complete (R12): it raised a VM exception whose object is at hand, it took an
internal fault, or its monitor-enter is never answered. -/
inductive Ended where
  | raised (e : Handle)
  | faulted (f : EngineFault)
  | unanswered
deriving DecidableEq, Repr

/-- A handler, or a part of one. -/
abbrev Handler := EStateM Ended Ctx

/-- The top activation. -/
def getTop : Handler Activation := fun c => .ok c.top c

/-- Replace the top activation. -/
def setTop (a : Activation) : Handler Unit := fun c => .ok () { c with top := a }

/-- Issue transactions. -/
def ask {α : Type} (m : Port α) : Handler α := fun c =>
  match m c.ports with
  | (v, p) => .ok v { c with ports := p }

/-- `fault F<n>(info)` (R12, R611). -/
def faultWith {α : Type} (f : EngineFault) : Handler α := fun c => .error (.faulted f) c

/-- Go on with a checked value, or take its fault. -/
def checked {α : Type} (x : Checked α) : Handler α := fun c =>
  match x with
  | .ok v => .ok v c
  | .error f => .error (.faulted f) c

/-- The causes a handler raises for, X1 to X9 (R601); X10 is a callee's exception taken by its caller (R567). -/
inductive Cause where
  | new (x : NewException)
  | resolution (e : Handle)
  | host (e : Handle)
  | thrown (e : Handle)
deriving DecidableEq, Repr

/-- The number n of X<n> (R601). -/
def Cause.code : Cause → Nat
  | .new (.nullPointer _) => 1 | .new (.arrayIndex _ _) => 2 | .new (.negativeArraySize _) => 3
  | .new (.classCast _ _) => 4 | .new .arithmetic => 5 | .new (.internalError _) => 6
  | .resolution _ => 7 | .host _ => 8 | .thrown _ => 9

/-- The exception object of a cause (R603): a new one from the host for X1 to X6, else the handle at hand. -/
def exceptionObject (x : Cause) : Port Handle :=
  match x with
  | .new n => throwNew n
  | .resolution e => pure e
  | .host e => pure e
  | .thrown e => pure e

/-- `raise X<n>(info)` (R12, R602). -/
def raise {α : Type} (x : Cause) : Handler α := do
  let e ← ask (exceptionObject x)
  fun c => .error (.raised e) c

/-- The value of an answer, or X7 with the exception of the collaborator. -/
def orResolution {α : Type} (r : Reply α) : Handler α :=
  match r with
  | .ok v => pure v
  | .fails e => raise (.resolution e)

/-- The value of an answer, or X8 with the exception of the host. -/
def orHost {α : Type} (r : Reply α) : Handler α :=
  match r with
  | .ok v => pure v
  | .fails e => raise (.host e)

/-! #### Registers and cursor -/

/-- `I32(i)`. -/
def readI32 (i : Nat) : Handler Word32 := do checked ((← getTop).i32 i)
/-- `I64(i)`. -/
def readI64 (i : Nat) : Handler Word64 := do checked ((← getTop).i64 i)
/-- `F32(i)`, as its bits. -/
def readF32 (i : Nat) : Handler Word32 := readI32 i
/-- `F64(i)`, as its bits. -/
def readF64 (i : Nat) : Handler Word64 := readI64 i
/-- `Ref(i)`. -/
def readRef (i : Nat) : Handler Handle := do checked ((← getTop).ref i)
/-- `setI32(i, v)`. -/
def writeI32 (i : Nat) (v : Word32) : Handler Unit := do setTop (← checked ((← getTop).setI32 i v))
/-- `setI64(i, v)`. -/
def writeI64 (i : Nat) (v : Word64) : Handler Unit := do setTop (← checked ((← getTop).setI64 i v))
/-- `setF32(i, f)`. -/
def writeF32 (i : Nat) (v : Word32) : Handler Unit := do setTop (← checked ((← getTop).setF32 i v))
/-- `setF64(i, d)`. -/
def writeF64 (i : Nat) (v : Word64) : Handler Unit := writeI64 i v
/-- `setRef(i, h)`. -/
def writeRef (i : Nat) (h : Handle) : Handler Unit := do setTop (← checked ((← getTop).setRef i h))
/-- `CU(k)` of the current method. -/
def readUnit (k : Int) : Handler CodeUnit := do checked ((← getTop).method.unit k)
/-- The 32-bit value at unit `k`, `CU(k+1) ++ CU(k)`. -/
def readUnit32 (k : Int) : Handler Word32 := do checked ((← getTop).method.unit32 k)

/-- The activation after `advance(n)` (R175). -/
def Activation.advance (a : Activation) (n : Nat) : Activation := { a with pc := a.pc + n }

/-- `advance(n)`. The handler has not moved pc before. -/
def advance (n : Nat) : Handler Unit := do setTop ((← getTop).advance n)

/-- An absolute set of the cursor to a target that must lie in [0, L] (R176, R177). -/
def Activation.goTo (a : Activation) (t : Int) : Checked Activation :=
  if 0 ≤ t ∧ t ≤ a.method.len then .ok { a with pc := t.toNat } else .error (.pcRange t)

/-- `jump(off)` (R176). -/
def jump (off : Int) : Handler Unit := do
  let a ← getTop
  setTop (← checked (a.goTo (a.pc + off)))

/-! ### Taking an exception and resuming (R602, R567, R623) -/

/-- An activation takes the exception e: EXC ← e, ST ← THROWING, INV ← Idle; pc stays. -/
def Activation.takeException (a : Activation) (e : Handle) : Activation :=
  { a with exc := some e, st := .throwing, inv := .idle }

/-- An activation resumes at a catch target: pc ← target, ST ← RUN; EXC keeps the exception. -/
def Activation.resumeAt (a : Activation) (t : Int) : Checked Activation :=
  (a.goTo t).map fun b => { b with st := .run }

/-- The stack a handler leaves: its callee, if it has pushed one, above the activation that ran. -/
def Ctx.stackOver (c : Ctx) (rest : List Activation) : List Activation :=
  match c.callee with
  | none => c.top :: rest
  | some b => b :: c.top :: rest

/-- FAULT ← f (R611): the activations stay as they are, and the host gets the fault (R182). -/
def State.abort (s : State) (f : EngineFault) : State :=
  { s with fault := some f, ports := { s.ports with delivered := some (.aborted f) } }

/-- What a handler is run on. -/
def Ctx.enter (s : State) (a : Activation) (rest : List Activation) : Ctx :=
  { top := a, callee := none, depth := rest.length + 1, ports := s.ports, params := s.params }

/-- What a handler that ran on the top activation `a` leaves (R174). Normally: what it wrote. With an exception (R602,
R605): `a` takes it, no register or RV written, pc where the handler left it (pc0, or pc0 + 1 for monitor-exit). With a
fault (R611): `a` as it was but for pc. With no answer to a monitor-enter there is no step (R456). -/
def settle (s : State) (a : Activation) (rest : List Activation) (r : EStateM.Result Ended Ctx Unit) : StepResult :=
  match r with
  | .ok () c => .next { s with stack := c.stackOver rest, ports := c.ports }
  | .error (.raised e) c =>
    .next { s with stack := Activation.takeException { a with pc := c.top.pc } e :: rest, ports := c.ports }
  | .error (.faulted f) c => .next ({ s with stack := { a with pc := c.top.pc } :: rest, ports := c.ports }.abort f)
  | .error .unanswered _ => .fault .monitorUnanswered

/-- Run a handler on the top activation. -/
def runTop (h : Handler Unit) (s : State) : StepResult :=
  match s.stack with
  | [] => .fault .noActivation
  | a :: rest => settle s a rest (h (Ctx.enter s a rest))

/-! ### Starting an activation (R562, R701 to R703) -/

/-- The method of an answer of `methodInfo`, with the shorty of the method reference it was asked for. -/
def MethodInfo.toMethod (m : MethodInfo) (sh : Shorty) : Method :=
  { code := Memory.ofUnits m.units, len := m.units.length, nreg := m.nreg, nins := m.nins, shorty := sh,
    isStatic := m.isStatic, tries := m.tries }

/-- A new activation (R701): every slot unwritten, pc 0, ST RUN, EXC empty, RVW 0, INV idle. The words of the slots and of
RV, which nothing can observe, are zero (assumptions 8 and 9). -/
def Activation.fresh (m : Method) : Activation :=
  { regs := List.replicate m.nreg { word := 0#64, written := false }, pc := 0, st := .run, exc := none, rv := 0#64,
    rvw := false, inv := .idle, ret := .void, method := m }

/-- A new activation with its parameter slots written (R49, R562 step 3). -/
def Activation.start (m : Method) (args : List TypedValue) : Checked Activation :=
  (Activation.fresh m).putArgs (m.nreg - m.nins) args

/-- The first activation of a chain the host starts (R703), over a stack of `depth` activations. -/
def startChain (maxDepth depth : Nat) (call : EntryCall) : Port (Checked Activation) := do
  let info ← methodInfo call.method
  let sh ← shortyOf call.method
  return if argWords call.args ≠ info.nins then .error (.paramMismatch 0)
    else if maxDepth ≤ depth then .error (.depth 0)
    else Activation.start (info.toMethod sh) call.args

/-- Push a callee above the top activation. -/
def pushCallee (b : Activation) : Handler Unit := fun c => .ok () { c with callee := some b }

/-- The host's entry call on an idle engine (R703). The host's exception-raised state is clear while the engine runs
(assumption 18). -/
def boot (s : State) (call : EntryCall) (later : List EntryCall) : State :=
  match startChain s.params.maxDepth 0 call { s.ports with entries := later, hostExc := none } with
  | (.ok a, p) => { s with stack := [a], ports := p }
  | (.error f, p) => { s with ports := p }.abort f

/-! ### Host calls (R563, R705) -/

/-- The host call stays outstanding (R705). -/
def holdCall (call : StagedCall) : Port Unit := fun p => ((), { p with calls := call :: p.calls })

/-- Go on with a host call until it is answered or re-enters the engine: a result goes to RV, a failure raises X8, a
re-entry pushes the first activation of a new chain. In that case the step of the invoke is not over: its activation
stays as the step found it, and the step ends when the chain does (`chainEnded`; assumption 14). -/
def awaitCall (call : StagedCall) : Handler Unit := do
  let r ← ask callAnswer
  match r with
  | .returns bits => do
    let a ← getTop
    setTop ({ a.putResult (hostResult call.ret bits) with st := .run, inv := .idle }.advance 3)
  | .fails e => raise (.host e)
  | .reenters entry => do
    let c ← get
    let b ← checked (← ask (startChain c.params.maxDepth c.depth entry))
    let a ← getTop
    setTop { a with st := .run, inv := .idle }
    ask (holdCall call)
    pushCallee b

/-- A host call after a chain inside it has ended: an exception that left the chain is the call's failure, picked up from
the host (R631, assumption 35), else the call goes on. -/
def resumeCall (call : StagedCall) (ended : Reply Unit) : Handler Unit :=
  match ended with
  | .ok () => awaitCall call
  | .fails e => do
    let _ ← ask pickUp
    raise (.host e)

/-! ### Ending an activation (R566 to R568, R182, R624, R631) -/

/-- Whether an activation waits for a callee above it (R570). -/
def Activation.awaitsCallee (a : Activation) : Bool :=
  match a.inv with
  | .callInterpreted _ => true
  | _ => false

/-- A caller takes the result of its callee (R566). -/
def Activation.takeResult (a : Activation) (r : ReturnValue) : Activation :=
  { a.putResult r with st := .run, inv := .idle, pc := a.pc + 3 }

/-- A chain the host started has ended and its activation has been popped. With nothing below, the run is over. Else the
newest outstanding host call, which started the chain, goes on and the step of its invoke ends (R563, R705). -/
def chainEnded (s : State) (ended : Reply Unit) : StepResult :=
  match s.stack, s.ports.calls with
  | [], _ => .next s
  | _ :: _, [] => .fault .noOutstandingCall
  | _ :: _, call :: calls => runTop (resumeCall call ended) { s with ports := { s.ports with calls := calls } }

/-- Whether the host started the chain whose last activation stands above `rest` (R568). -/
def hostStarted (rest : List Activation) : Bool :=
  match rest with
  | [] => true
  | b :: _ => !b.awaitsCallee

/-- The activation above `rest`, popped in FINISHED status, delivers its result to its caller (R566), or to the host when
the host started its chain (R182). -/
def deliver (s : State) (r : ReturnValue) (rest : List Activation) : StepResult :=
  if hostStarted rest then
    chainEnded { s with stack := rest, ports := { s.ports with delivered := some (.returned r) } } (.ok ())
  else .next { s with stack := rest.modifyHead (·.takeResult r) }

/-- The activation above `rest`, popped with an exception it does not handle, passes it to its caller (R567), or to the
host (R631). -/
def propagate (s : State) (e : Handle) (rest : List Activation) : StepResult :=
  if hostStarted rest then
    chainEnded { s with stack := rest, ports := ((hostThrow e).run { s.ports with delivered := some (.raised e) }).2 }
      (.fails e)
  else .next { s with stack := rest.modifyHead (·.takeException e) }

/-! ### The unwinder (R620 to R624) -/

/-- A range covers the handling pc (R621). -/
def TryRange.covers (r : TryRange) (p : Nat) : Bool := decide (r.start ≤ p) && decide (p < r.start + r.length)

/-- The range whose handlers are searched (R622): a linear scan; a later covering range replaces the candidate only if its
start is strictly larger. -/
def selectRange (p : Nat) : Option TryRange → List TryRange → Option TryRange
  | best, [] => best
  | best, r :: rs =>
    if r.covers p then
      match best with
      | none => selectRange p (some r) rs
      | some b => selectRange p (if b.start < r.start then some r else some b) rs
    else selectRange p best rs

/-- The pairs of a handler list: as many as the magnitude of its count (R61). -/
def HandlerList.typed (l : HandlerList) : List (Nat × Int) := l.pairs.take l.count.natAbs

/-- The catch-all of a handler list, present exactly when its count is not positive (R61). -/
def HandlerList.otherwise (l : HandlerList) : Option Int := if l.count ≤ 0 then l.catchAll else none

/-- The first pair whose type resolves and of which e is an instance (R623). A type that does not resolve is no match. -/
def matchTyped (e : Handle) : List (Nat × Int) → Port (Option Int)
  | [] => pure none
  | (typeIndex, target) :: rest => do
    match ← resolveClass typeIndex with
    | .fails _ => matchTyped e rest
    | .ok cls => if ← isInstanceOf e cls then pure (some target) else matchTyped e rest

/-- The catch target of a handler list for e (R623). -/
def HandlerList.search (l : HandlerList) (e : Handle) : Port (Option Int) := do
  match ← matchTyped e l.typed with
  | some t => return some t
  | none => return l.otherwise

/-- The catch target of an activation for e, if it has one (R620). -/
def Activation.findHandler (a : Activation) (e : Handle) : Port (Option Int) :=
  match selectRange a.pc none a.method.tries with
  | none => pure none
  | some r => r.handlers.search e

/-- One unwinder step on the top activation (R620). -/
def unwind (s : State) (a : Activation) (rest : List Activation) (e : Handle) : StepResult :=
  match a.findHandler e s.ports with
  | (none, p) => propagate { s with ports := p } e rest
  | (some t, p) =>
    match a.resumeAt t with
    | .ok b => .next { s with stack := b :: rest, ports := p }
    | .error f => .next ({ s with ports := p }.abort f)

/-! ### The steps that run no instruction (R170) -/

/-- A step of an engine with no activation: the host's next entry call boots a chain (R703); with none the engine stays as
it is, waiting for the host (R182, assumption 5). -/
def idleStep (s : State) : State :=
  match s.ports.entries with
  | [] => s
  | call :: later => boot s call later

/-- A step of a top activation in THROWING status: the unwinder (R620). -/
def throwingStep (s : State) (a : Activation) (rest : List Activation) : StepResult :=
  match a.exc with
  | none => .fault .throwingWithoutException
  | some e => unwind s a rest e

end Sys2Proof.Machine
end

