-- ==== Sys2Proof/Machine/Float.lean ====
section
/-! DEFINITION. IEEE-754 arithmetic on bit patterns (spec/43_arith_float_conv.md R350 to R358): unpacking to an exact
value, rounding an exact value to nearest with ties to even, the operations, comparison and conversion. An operation whose
result is a NaN answers `none`; the bits of that NaN are a free value (R352, assumption 2). -/

namespace Sys2Proof.Machine

/-- A binary interchange format, by its numbers of fraction and exponent bits (R350). -/
structure FloatFormat where
  frac : Nat
  exp : Nat
deriving DecidableEq, Repr

/-- binary32. -/
def binary32 : FloatFormat := { frac := 23, exp := 8 }
/-- binary64. -/
def binary64 : FloatFormat := { frac := 52, exp := 11 }

/-- The value of a floating-point datum: a NaN, an infinity, or ± m × 2^e. -/
inductive FloatValue where
  | nan
  | inf (neg : Bool)
  | finite (neg : Bool) (m : Nat) (e : Int)
deriving DecidableEq, Repr

/-- The exponent of the last place of a subnormal. -/
def FloatFormat.minExp (f : FloatFormat) : Int := 2 - 2 ^ (f.exp - 1) - f.frac

/-- The magnitude bits of an infinity. -/
def FloatFormat.infBits (f : FloatFormat) : Nat := (2 ^ f.exp - 1) * 2 ^ f.frac

/-- The bits of a datum of a given sign and magnitude. -/
def FloatFormat.signed (f : FloatFormat) (neg : Bool) (mag : Nat) : Nat :=
  if neg then 2 ^ (f.frac + f.exp) + mag else mag

/-- The value of a bit pattern. -/
def FloatFormat.unpack (f : FloatFormat) (n : Nat) : FloatValue :=
  let fr := n % 2 ^ f.frac
  let ex := n / 2 ^ f.frac % 2 ^ f.exp
  let neg := decide (n / 2 ^ (f.frac + f.exp) % 2 = 1)
  if ex = 2 ^ f.exp - 1 then if fr = 0 then .inf neg else .nan
  else if ex = 0 then .finite neg fr f.minExp
  else .finite neg (2 ^ f.frac + fr) (f.minExp + ex - 1)

/-- n / d rounded to the nearest natural number, ties to even. -/
def divNearestEven (n d : Nat) : Nat :=
  let q := n / d
  let r := n % d
  if 2 * r < d then q else if d < 2 * r then q + 1 else if q % 2 = 0 then q else q + 1

/-- The binary exponent of n / d for positive n and d: the k with 2^k ≤ n / d < 2^(k+1). -/
def ratioLog2 (n d : Nat) : Int :=
  let k : Int := (n.log2 : Int) - d.log2
  if d * 2 ^ k.toNat ≤ n * 2 ^ (-k).toNat then k else k - 1

/-- The magnitude bits of `RNE(n / d × 2^e)` for positive d (R351, R353): the last place is chosen by the exponent of the
value, not below the subnormals'; a carry of the rounding runs into the exponent field, and past the largest finite value
gives an infinity. -/
def FloatFormat.round (f : FloatFormat) (n d : Nat) (e : Int) : Nat :=
  if n = 0 then 0
  else
    let last := max f.minExp (ratioLog2 n d + e - f.frac)
    let q := divNearestEven (n * 2 ^ (e - last).toNat) (d * 2 ^ (last - e).toNat)
    min f.infBits ((last - f.minExp).toNat * 2 ^ f.frac + q)

/-- ± m × 2^e rounded to the format, as bits. -/
def FloatFormat.pack (f : FloatFormat) (neg : Bool) (m : Nat) (e : Int) : Nat := f.signed neg (f.round m 1 e)

/-- The sign and magnitude of a signed integer scaled by 2^e; a zero takes the sign `zeroNeg`. -/
def FloatFormat.packInt (f : FloatFormat) (z : Int) (e : Int) (zeroNeg : Bool) : Nat :=
  if z = 0 then f.signed zeroNeg 0 else f.pack (decide (z < 0)) z.natAbs e

/-- ± m as an integer. -/
def signedInt (neg : Bool) (m : Nat) : Int := if neg then -(m : Int) else m

/-- Two scaled integers over the smaller of their exponents. -/
def alignExp (m : Nat) (e e' : Int) : Nat := m * 2 ^ (e - min e e').toNat

/-- The opposite value. -/
def FloatValue.neg : FloatValue → FloatValue
  | .nan => .nan
  | .inf s => .inf (!s)
  | .finite s m e => .finite (!s) m e

/-- a + b, rounded; `none` is a NaN (R351, R352). A zero sum is negative only when both operands are. -/
def FloatFormat.add (f : FloatFormat) (a b : FloatValue) : Option Nat :=
  match a, b with
  | .nan, _ => none
  | .inf _, .nan => none
  | .finite _ _ _, .nan => none
  | .inf s, .inf t => if s = t then some (f.signed s f.infBits) else none
  | .inf s, .finite _ _ _ => some (f.signed s f.infBits)
  | .finite _ _ _, .inf t => some (f.signed t f.infBits)
  | .finite s m e, .finite t n g =>
    some (f.packInt (signedInt s (alignExp m e g) + signedInt t (alignExp n g e)) (min e g) (s && t))

/-- a − b, rounded. -/
def FloatFormat.sub (f : FloatFormat) (a b : FloatValue) : Option Nat := f.add a b.neg

/-- a × b, rounded. -/
def FloatFormat.mul (f : FloatFormat) (a b : FloatValue) : Option Nat :=
  match a, b with
  | .nan, _ => none
  | .inf _, .nan => none
  | .finite _ _ _, .nan => none
  | .inf s, .inf t => some (f.signed (s ^^ t) f.infBits)
  | .inf s, .finite t n _ => if n = 0 then none else some (f.signed (s ^^ t) f.infBits)
  | .finite s m _, .inf t => if m = 0 then none else some (f.signed (s ^^ t) f.infBits)
  | .finite s m e, .finite t n g => some (f.pack (s ^^ t) (m * n) (e + g))

/-- a / b, rounded; a non-zero finite over a zero is an infinity (R354). -/
def FloatFormat.div (f : FloatFormat) (a b : FloatValue) : Option Nat :=
  match a, b with
  | .nan, _ => none
  | .inf _, .nan => none
  | .finite _ _ _, .nan => none
  | .inf _, .inf _ => none
  | .inf s, .finite t _ _ => some (f.signed (s ^^ t) f.infBits)
  | .finite s _ _, .inf t => some (f.signed (s ^^ t) 0)
  | .finite s m e, .finite t n g =>
    if n = 0 then if m = 0 then none else some (f.signed (s ^^ t) f.infBits)
    else some (f.signed (s ^^ t) (f.round m n (e - g)))

/-- FMOD(a, b) (R355): the truncating remainder, exact, with the sign of the dividend. -/
def FloatFormat.rem (f : FloatFormat) (a b : FloatValue) : Option Nat :=
  match a, b with
  | .nan, _ => none
  | .inf _, _ => none
  | .finite _ _ _, .nan => none
  | .finite s m e, .inf _ => some (f.pack s m e)
  | .finite s m e, .finite _ n g =>
    if n = 0 then none else some (f.pack s (alignExp m e g % alignExp n g e) (min e g))

/-- The order of two values, or none when either is a NaN (R356). -/
def FloatValue.order (a b : FloatValue) : Option Ordering :=
  match a, b with
  | .nan, _ => none
  | .inf _, .nan => none
  | .finite _ _ _, .nan => none
  | .inf s, .inf t => some (if s = t then .eq else if s then .lt else .gt)
  | .inf s, .finite _ _ _ => some (if s then .lt else .gt)
  | .finite _ _ _, .inf t => some (if t then .gt else .lt)
  | .finite s m e, .finite t n g =>
    some (compare (signedInt s (alignExp m e g)) (signedInt t (alignExp n g e)))

/-- `trunc` of ± m × 2^e. -/
def truncScaled (neg : Bool) (m : Nat) (e : Int) : Int :=
  signedInt neg (m * 2 ^ e.toNat / 2 ^ (-e).toNat)

/-- `F2I_N(v)` for N = w + 1 (R357): a NaN gives 0, the rest saturates. -/
def FloatValue.toInt (w : Nat) (v : FloatValue) : Int :=
  match v with
  | .nan => 0
  | .inf neg => if neg then -(2 ^ w) else 2 ^ w - 1
  | .finite neg m e => max (-(2 ^ w)) (min (2 ^ w - 1) (truncScaled neg m e))

/-- A value converted to a format (R358). -/
def FloatFormat.convert (f : FloatFormat) (v : FloatValue) : Option Nat :=
  match v with
  | .nan => none
  | .inf neg => some (f.signed neg f.infBits)
  | .finite neg m e => some (f.pack neg m e)

/-! ### On register patterns -/

/-- `asF32`. -/
def asF32 (b : Word32) : FloatValue := binary32.unpack b.toNat
/-- `asF64`. -/
def asF64 (b : Word64) : FloatValue := binary64.unpack b.toNat

/-- A NaN of binary32 with the free pattern's sign and fraction; a zero fraction is made non-zero (R352). -/
def nan32 (free : Word32) : Word32 :=
  if free.extractLsb' 0 23 = 0#23 then free ||| 0x7fc00000#32 else free ||| 0x7f800000#32
/-- A NaN of binary64. -/
def nan64 (free : Word64) : Word64 :=
  if free.extractLsb' 0 52 = 0#52 then free ||| 0x7ff8000000000000#64 else free ||| 0x7ff0000000000000#64

/-- The bits of a binary32 result; a NaN's are drawn. -/
def produce32 (r : Option Nat) : Port Word32 :=
  match r with
  | some n => pure (BitVec.ofNat 32 n)
  | none => nan32 <$> drawNaN32

/-- The bits of a binary64 result; a NaN's are drawn. -/
def produce64 (r : Option Nat) : Port Word64 :=
  match r with
  | some n => pure (BitVec.ofNat 64 n)
  | none => nan64 <$> drawNaN64

end Sys2Proof.Machine
end

