-- ==== Sys2Proof/Machine/Flags.lean ====
section
/-! DEFINITION. Conditions (spec/10_state.md R52). The engine has no status flags, condition codes or predicates: a
comparison writes a tri-state int into a register (R259, R356), and a conditional branch compares
signed 32-bit register values itself (spec/44_control_flow.md R424). -/

namespace Sys2Proof.Machine

/-- −1, 0 or 1 as an int pattern. -/
def triState (o : Ordering) : Word32 :=
  match o with
  | .lt => 0xffffffff#32
  | .eq => 0#32
  | .gt => 1#32

/-- The result of a float or double comparison (R356): an unordered pair gives the instruction's bias. -/
def compareFloat (bias : Word32) (a b : FloatValue) : Word32 :=
  match a.order b with
  | none => bias
  | some o => triState o

/-- The result of cmp-long: the order of two longs. -/
def compareLong (a b : Word64) : Word32 := triState (compare a.toInt b.toInt)

/-- The six conditions of the if family. -/
inductive Cond where
  | eq | ne | lt | ge | gt | le
deriving DecidableEq, Repr

/-- A condition on two signed values. -/
def Cond.holds (c : Cond) (a b : Int) : Bool :=
  match c with
  | .eq => decide (a = b)
  | .ne => decide (a ≠ b)
  | .lt => decide (a < b)
  | .ge => decide (b ≤ a)
  | .gt => decide (b < a)
  | .le => decide (a ≤ b)

end Sys2Proof.Machine
end

