-- ==== Sys2Proof/Machine/ArithInt.lean ====
section
/-! DEFINITION. Integer arithmetic, logic and comparison (spec/42_arith_int.md). Sums, differences, products, negations,
quotients and remainders are computed in ℤ on the signed operands and wrapped to the width (R250, R251); a shift uses the
low five or six bits of its amount (R252). -/

namespace Sys2Proof.Machine

/-! ### Operations on patterns -/

/-- `wrap_32`. -/
def wrap32 (z : Int) : Word32 := BitVec.ofInt 32 z
/-- `wrap_64`. -/
def wrap64 (z : Int) : Word64 := BitVec.ofInt 64 z

def neg32 (a : Word32) : Word32 := wrap32 (0 - a.toInt)
def not32 (a : Word32) : Word32 := a ^^^ 0xffffffff#32
def add32 (a b : Word32) : Word32 := wrap32 (a.toInt + b.toInt)
def sub32 (a b : Word32) : Word32 := wrap32 (a.toInt - b.toInt)
/-- The literal less the register (R253). -/
def rsub32 (a b : Word32) : Word32 := wrap32 (b.toInt - a.toInt)
def mul32 (a b : Word32) : Word32 := wrap32 (a.toInt * b.toInt)
/-- DIV_32 (R251), the divisor checked by the caller. -/
def div32 (a b : Word32) : Word32 := wrap32 (a.toInt.tdiv b.toInt)
/-- REM_32 (R251). -/
def rem32 (a b : Word32) : Word32 := wrap32 (a.toInt - b.toInt * a.toInt.tdiv b.toInt)
def and32 (a b : Word32) : Word32 := a &&& b
def or32 (a b : Word32) : Word32 := a ||| b
def xor32 (a b : Word32) : Word32 := a ^^^ b
/-- The amount of an int shift: `b[4:0]` (R252). -/
def amount32 (b : Word32) : Nat := (b.extractLsb' 0 5).toNat
def shl32 (a b : Word32) : Word32 := a <<< amount32 b
/-- Arithmetic: the vacated bits copy the sign. -/
def shr32 (a b : Word32) : Word32 := a.sshiftRight (amount32 b)
/-- Logical: the vacated bits are zero. -/
def ushr32 (a b : Word32) : Word32 := a >>> amount32 b

def neg64 (a : Word64) : Word64 := wrap64 (0 - a.toInt)
def not64 (a : Word64) : Word64 := a ^^^ 0xffffffffffffffff#64
def add64 (a b : Word64) : Word64 := wrap64 (a.toInt + b.toInt)
def sub64 (a b : Word64) : Word64 := wrap64 (a.toInt - b.toInt)
def mul64 (a b : Word64) : Word64 := wrap64 (a.toInt * b.toInt)
/-- DIV_64 (R251), the divisor checked by the caller. -/
def div64 (a b : Word64) : Word64 := wrap64 (a.toInt.tdiv b.toInt)
/-- REM_64 (R251). -/
def rem64 (a b : Word64) : Word64 := wrap64 (a.toInt - b.toInt * a.toInt.tdiv b.toInt)
def and64 (a b : Word64) : Word64 := a &&& b
def or64 (a b : Word64) : Word64 := a ||| b
def xor64 (a b : Word64) : Word64 := a ^^^ b
/-- The amount of a long shift: `b[5:0]` of an int (R252). -/
def amount64 (b : Word32) : Nat := (b.extractLsb' 0 6).toNat
def shl64 (a : Word64) (b : Word32) : Word64 := a <<< amount64 b
/-- Arithmetic. -/
def shr64 (a : Word64) (b : Word32) : Word64 := a.sshiftRight (amount64 b)
/-- Logical. -/
def ushr64 (a : Word64) (b : Word32) : Word64 := a >>> amount64 b

/-! ### Operand forms (R253) -/

/-- A unary int operation, format 12x. -/
def intUnary (dst src : Nat) (f : Word32 → Word32) : Handler Unit := do
  let a ← readI32 src
  writeI32 dst (f a)
  advance 1

/-- A unary long operation, format 12x. -/
def longUnary (dst src : Nat) (f : Word64 → Word64) : Handler Unit := do
  let a ← readI64 src
  writeI64 dst (f a)
  advance 1

/-- cmp-long (R259). -/
def longCompare (dst l r : Nat) : Handler Unit := do
  let a ← readI64 l
  let b ← readI64 r
  writeI32 dst (compareLong a b)
  advance 2

/-- A binary int operation of two registers. -/
def intBinary (dst l r n : Nat) (f : Word32 → Word32 → Word32) : Handler Unit := do
  let a ← readI32 l
  let b ← readI32 r
  writeI32 dst (f a b)
  advance n

/-- div-int and rem-int of two registers: X5 on a zero divisor (R251). -/
def intDivide (dst l r n : Nat) (f : Word32 → Word32 → Word32) : Handler Unit := do
  let a ← readI32 l
  let b ← readI32 r
  if b = 0#32 then raise (.new .arithmetic)
  else do
    writeI32 dst (f a b)
    advance n

/-- A binary int operation of a register and a literal. -/
def intLiteral (dst src : Nat) (lit : Word32) (f : Word32 → Word32 → Word32) : Handler Unit := do
  let a ← readI32 src
  writeI32 dst (f a lit)
  advance 2

/-- div-int and rem-int by a literal: X5 on a zero literal, after the register is read. -/
def intLiteralDivide (dst src : Nat) (lit : Word32) (f : Word32 → Word32 → Word32) : Handler Unit := do
  let a ← readI32 src
  if lit = 0#32 then raise (.new .arithmetic)
  else do
    writeI32 dst (f a lit)
    advance 2

/-- A binary long operation of two pairs. -/
def longBinary (dst l r n : Nat) (f : Word64 → Word64 → Word64) : Handler Unit := do
  let a ← readI64 l
  let b ← readI64 r
  writeI64 dst (f a b)
  advance n

/-- div-long and rem-long: X5 on a zero divisor. -/
def longDivide (dst l r n : Nat) (f : Word64 → Word64 → Word64) : Handler Unit := do
  let a ← readI64 l
  let b ← readI64 r
  if b = 0#64 then raise (.new .arithmetic)
  else do
    writeI64 dst (f a b)
    advance n

/-- A long shift: the amount is one register (R252). -/
def longShift (dst l r n : Nat) (f : Word64 → Word32 → Word64) : Handler Unit := do
  let a ← readI64 l
  let b ← readI32 r
  writeI64 dst (f a b)
  advance n

/-! ### The instructions -/

/-- `cmp-long vAA, vBB, vCC` (R259): the signed order of two longs as an int. -/
def execCmpLong (aa bb cc : BitVec 8) (s : State) : StepResult := runTop (longCompare aa.toNat bb.toNat cc.toNat) s

/-- `neg-int vA, vB` (R255): wrapping negation. -/
def execNegInt (a b : BitVec 4) (s : State) : StepResult := runTop (intUnary a.toNat b.toNat neg32) s

/-- `not-int vA, vB` (R256): bitwise complement. -/
def execNotInt (a b : BitVec 4) (s : State) : StepResult := runTop (intUnary a.toNat b.toNat not32) s

/-- `neg-long vA, vB` (R257): wrapping negation. -/
def execNegLong (a b : BitVec 4) (s : State) : StepResult := runTop (longUnary a.toNat b.toNat neg64) s

/-- `not-long vA, vB` (R258): bitwise complement. -/
def execNotLong (a b : BitVec 4) (s : State) : StepResult := runTop (longUnary a.toNat b.toNat not64) s

/-- `add-int vAA, vBB, vCC` (R260): wrapping sum. -/
def execAddInt (aa bb cc : BitVec 8) (s : State) : StepResult :=
  runTop (intBinary aa.toNat bb.toNat cc.toNat 2 add32) s

/-- `sub-int vAA, vBB, vCC` (R261): wrapping difference. -/
def execSubInt (aa bb cc : BitVec 8) (s : State) : StepResult :=
  runTop (intBinary aa.toNat bb.toNat cc.toNat 2 sub32) s

/-- `mul-int vAA, vBB, vCC` (R262): low bits of the product. -/
def execMulInt (aa bb cc : BitVec 8) (s : State) : StepResult :=
  runTop (intBinary aa.toNat bb.toNat cc.toNat 2 mul32) s

/-- `div-int vAA, vBB, vCC` (R263): truncating quotient, X5 on a zero divisor. -/
def execDivInt (aa bb cc : BitVec 8) (s : State) : StepResult :=
  runTop (intDivide aa.toNat bb.toNat cc.toNat 2 div32) s

/-- `rem-int vAA, vBB, vCC` (R264): truncating remainder, X5 on a zero divisor. -/
def execRemInt (aa bb cc : BitVec 8) (s : State) : StepResult :=
  runTop (intDivide aa.toNat bb.toNat cc.toNat 2 rem32) s

/-- `and-int vAA, vBB, vCC` (R265): bitwise and. -/
def execAndInt (aa bb cc : BitVec 8) (s : State) : StepResult :=
  runTop (intBinary aa.toNat bb.toNat cc.toNat 2 and32) s

/-- `or-int vAA, vBB, vCC` (R266): bitwise or. -/
def execOrInt (aa bb cc : BitVec 8) (s : State) : StepResult := runTop (intBinary aa.toNat bb.toNat cc.toNat 2 or32) s

/-- `xor-int vAA, vBB, vCC` (R267): bitwise exclusive or. -/
def execXorInt (aa bb cc : BitVec 8) (s : State) : StepResult :=
  runTop (intBinary aa.toNat bb.toNat cc.toNat 2 xor32) s

/-- `shl-int vAA, vBB, vCC` (R268): left shift. -/
def execShlInt (aa bb cc : BitVec 8) (s : State) : StepResult :=
  runTop (intBinary aa.toNat bb.toNat cc.toNat 2 shl32) s

/-- `shr-int vAA, vBB, vCC` (R269): arithmetic right shift. -/
def execShrInt (aa bb cc : BitVec 8) (s : State) : StepResult :=
  runTop (intBinary aa.toNat bb.toNat cc.toNat 2 shr32) s

/-- `ushr-int vAA, vBB, vCC` (R270): logical right shift. -/
def execUshrInt (aa bb cc : BitVec 8) (s : State) : StepResult :=
  runTop (intBinary aa.toNat bb.toNat cc.toNat 2 ushr32) s

/-- `add-long vAA, vBB, vCC` (R271): wrapping sum. -/
def execAddLong (aa bb cc : BitVec 8) (s : State) : StepResult :=
  runTop (longBinary aa.toNat bb.toNat cc.toNat 2 add64) s

/-- `sub-long vAA, vBB, vCC` (R272): wrapping difference. -/
def execSubLong (aa bb cc : BitVec 8) (s : State) : StepResult :=
  runTop (longBinary aa.toNat bb.toNat cc.toNat 2 sub64) s

/-- `mul-long vAA, vBB, vCC` (R273): low bits of the product. -/
def execMulLong (aa bb cc : BitVec 8) (s : State) : StepResult :=
  runTop (longBinary aa.toNat bb.toNat cc.toNat 2 mul64) s

/-- `div-long vAA, vBB, vCC` (R274): truncating quotient, X5 on a zero divisor. -/
def execDivLong (aa bb cc : BitVec 8) (s : State) : StepResult :=
  runTop (longDivide aa.toNat bb.toNat cc.toNat 2 div64) s

/-- `rem-long vAA, vBB, vCC` (R275): truncating remainder, X5 on a zero divisor. -/
def execRemLong (aa bb cc : BitVec 8) (s : State) : StepResult :=
  runTop (longDivide aa.toNat bb.toNat cc.toNat 2 rem64) s

/-- `and-long vAA, vBB, vCC` (R276): bitwise and. -/
def execAndLong (aa bb cc : BitVec 8) (s : State) : StepResult :=
  runTop (longBinary aa.toNat bb.toNat cc.toNat 2 and64) s

/-- `or-long vAA, vBB, vCC` (R277): bitwise or. -/
def execOrLong (aa bb cc : BitVec 8) (s : State) : StepResult :=
  runTop (longBinary aa.toNat bb.toNat cc.toNat 2 or64) s

/-- `xor-long vAA, vBB, vCC` (R278): bitwise exclusive or. -/
def execXorLong (aa bb cc : BitVec 8) (s : State) : StepResult :=
  runTop (longBinary aa.toNat bb.toNat cc.toNat 2 xor64) s

/-- `shl-long vAA, vBB, vCC` (R279): left shift. -/
def execShlLong (aa bb cc : BitVec 8) (s : State) : StepResult :=
  runTop (longShift aa.toNat bb.toNat cc.toNat 2 shl64) s

/-- `shr-long vAA, vBB, vCC` (R280): arithmetic right shift. -/
def execShrLong (aa bb cc : BitVec 8) (s : State) : StepResult :=
  runTop (longShift aa.toNat bb.toNat cc.toNat 2 shr64) s

/-- `ushr-long vAA, vBB, vCC` (R281): logical right shift. -/
def execUshrLong (aa bb cc : BitVec 8) (s : State) : StepResult :=
  runTop (longShift aa.toNat bb.toNat cc.toNat 2 ushr64) s

/-- `add-int/2addr vA, vB` (R282): wrapping sum. -/
def execAddInt2addr (a b : BitVec 4) (s : State) : StepResult := runTop (intBinary a.toNat a.toNat b.toNat 1 add32) s

/-- `sub-int/2addr vA, vB` (R283): wrapping difference. -/
def execSubInt2addr (a b : BitVec 4) (s : State) : StepResult := runTop (intBinary a.toNat a.toNat b.toNat 1 sub32) s

/-- `mul-int/2addr vA, vB` (R284): low bits of the product. -/
def execMulInt2addr (a b : BitVec 4) (s : State) : StepResult := runTop (intBinary a.toNat a.toNat b.toNat 1 mul32) s

/-- `div-int/2addr vA, vB` (R285): truncating quotient, X5 on a zero divisor. -/
def execDivInt2addr (a b : BitVec 4) (s : State) : StepResult := runTop (intDivide a.toNat a.toNat b.toNat 1 div32) s

/-- `rem-int/2addr vA, vB` (R286): truncating remainder, X5 on a zero divisor. -/
def execRemInt2addr (a b : BitVec 4) (s : State) : StepResult := runTop (intDivide a.toNat a.toNat b.toNat 1 rem32) s

/-- `and-int/2addr vA, vB` (R287): bitwise and. -/
def execAndInt2addr (a b : BitVec 4) (s : State) : StepResult := runTop (intBinary a.toNat a.toNat b.toNat 1 and32) s

/-- `or-int/2addr vA, vB` (R288): bitwise or. -/
def execOrInt2addr (a b : BitVec 4) (s : State) : StepResult := runTop (intBinary a.toNat a.toNat b.toNat 1 or32) s

/-- `xor-int/2addr vA, vB` (R289): bitwise exclusive or. -/
def execXorInt2addr (a b : BitVec 4) (s : State) : StepResult := runTop (intBinary a.toNat a.toNat b.toNat 1 xor32) s

/-- `shl-int/2addr vA, vB` (R290): left shift. -/
def execShlInt2addr (a b : BitVec 4) (s : State) : StepResult := runTop (intBinary a.toNat a.toNat b.toNat 1 shl32) s

/-- `shr-int/2addr vA, vB` (R291): arithmetic right shift. -/
def execShrInt2addr (a b : BitVec 4) (s : State) : StepResult := runTop (intBinary a.toNat a.toNat b.toNat 1 shr32) s

/-- `ushr-int/2addr vA, vB` (R292): logical right shift. -/
def execUshrInt2addr (a b : BitVec 4) (s : State) : StepResult :=
  runTop (intBinary a.toNat a.toNat b.toNat 1 ushr32) s

/-- `add-long/2addr vA, vB` (R293): wrapping sum. -/
def execAddLong2addr (a b : BitVec 4) (s : State) : StepResult :=
  runTop (longBinary a.toNat a.toNat b.toNat 1 add64) s

/-- `sub-long/2addr vA, vB` (R294): wrapping difference. -/
def execSubLong2addr (a b : BitVec 4) (s : State) : StepResult :=
  runTop (longBinary a.toNat a.toNat b.toNat 1 sub64) s

/-- `mul-long/2addr vA, vB` (R295): low bits of the product. -/
def execMulLong2addr (a b : BitVec 4) (s : State) : StepResult :=
  runTop (longBinary a.toNat a.toNat b.toNat 1 mul64) s

/-- `div-long/2addr vA, vB` (R296): truncating quotient, X5 on a zero divisor. -/
def execDivLong2addr (a b : BitVec 4) (s : State) : StepResult :=
  runTop (longDivide a.toNat a.toNat b.toNat 1 div64) s

/-- `rem-long/2addr vA, vB` (R297): truncating remainder, X5 on a zero divisor. -/
def execRemLong2addr (a b : BitVec 4) (s : State) : StepResult :=
  runTop (longDivide a.toNat a.toNat b.toNat 1 rem64) s

/-- `and-long/2addr vA, vB` (R298): bitwise and. -/
def execAndLong2addr (a b : BitVec 4) (s : State) : StepResult :=
  runTop (longBinary a.toNat a.toNat b.toNat 1 and64) s

/-- `or-long/2addr vA, vB` (R299): bitwise or. -/
def execOrLong2addr (a b : BitVec 4) (s : State) : StepResult := runTop (longBinary a.toNat a.toNat b.toNat 1 or64) s

/-- `xor-long/2addr vA, vB` (R300): bitwise exclusive or. -/
def execXorLong2addr (a b : BitVec 4) (s : State) : StepResult :=
  runTop (longBinary a.toNat a.toNat b.toNat 1 xor64) s

/-- `shl-long/2addr vA, vB` (R301): left shift. -/
def execShlLong2addr (a b : BitVec 4) (s : State) : StepResult := runTop (longShift a.toNat a.toNat b.toNat 1 shl64) s

/-- `shr-long/2addr vA, vB` (R302): arithmetic right shift. -/
def execShrLong2addr (a b : BitVec 4) (s : State) : StepResult := runTop (longShift a.toNat a.toNat b.toNat 1 shr64) s

/-- `ushr-long/2addr vA, vB` (R303): logical right shift. -/
def execUshrLong2addr (a b : BitVec 4) (s : State) : StepResult :=
  runTop (longShift a.toNat a.toNat b.toNat 1 ushr64) s

/-- `add-int/lit16 vA, vB, #+CCCC` (R304): wrapping sum, second operand a literal. -/
def execAddIntLit16 (a b : BitVec 4) (cccc : BitVec 16) (s : State) : StepResult :=
  runTop (intLiteral a.toNat b.toNat (cccc.signExtend 32) add32) s

/-- `rsub-int vA, vB, #+CCCC` (R305): reverse wrapping difference, second operand a literal. -/
def execRsubInt (a b : BitVec 4) (cccc : BitVec 16) (s : State) : StepResult :=
  runTop (intLiteral a.toNat b.toNat (cccc.signExtend 32) rsub32) s

/-- `mul-int/lit16 vA, vB, #+CCCC` (R306): low bits of the product, second operand a literal. -/
def execMulIntLit16 (a b : BitVec 4) (cccc : BitVec 16) (s : State) : StepResult :=
  runTop (intLiteral a.toNat b.toNat (cccc.signExtend 32) mul32) s

/-- `div-int/lit16 vA, vB, #+CCCC` (R307): truncating quotient, X5 on a zero divisor, second operand a literal. -/
def execDivIntLit16 (a b : BitVec 4) (cccc : BitVec 16) (s : State) : StepResult :=
  runTop (intLiteralDivide a.toNat b.toNat (cccc.signExtend 32) div32) s

/-- `rem-int/lit16 vA, vB, #+CCCC` (R308): truncating remainder, X5 on a zero divisor, second operand a literal. -/
def execRemIntLit16 (a b : BitVec 4) (cccc : BitVec 16) (s : State) : StepResult :=
  runTop (intLiteralDivide a.toNat b.toNat (cccc.signExtend 32) rem32) s

/-- `and-int/lit16 vA, vB, #+CCCC` (R309): bitwise and, second operand a literal. -/
def execAndIntLit16 (a b : BitVec 4) (cccc : BitVec 16) (s : State) : StepResult :=
  runTop (intLiteral a.toNat b.toNat (cccc.signExtend 32) and32) s

/-- `or-int/lit16 vA, vB, #+CCCC` (R310): bitwise or, second operand a literal. -/
def execOrIntLit16 (a b : BitVec 4) (cccc : BitVec 16) (s : State) : StepResult :=
  runTop (intLiteral a.toNat b.toNat (cccc.signExtend 32) or32) s

/-- `xor-int/lit16 vA, vB, #+CCCC` (R311): bitwise exclusive or, second operand a literal. -/
def execXorIntLit16 (a b : BitVec 4) (cccc : BitVec 16) (s : State) : StepResult :=
  runTop (intLiteral a.toNat b.toNat (cccc.signExtend 32) xor32) s

/-- `add-int/lit8 vAA, vBB, #+CC` (R312): wrapping sum, second operand a literal. -/
def execAddIntLit8 (aa bb cc : BitVec 8) (s : State) : StepResult :=
  runTop (intLiteral aa.toNat bb.toNat (cc.signExtend 32) add32) s

/-- `rsub-int/lit8 vAA, vBB, #+CC` (R313): reverse wrapping difference, second operand a literal. -/
def execRsubIntLit8 (aa bb cc : BitVec 8) (s : State) : StepResult :=
  runTop (intLiteral aa.toNat bb.toNat (cc.signExtend 32) rsub32) s

/-- `mul-int/lit8 vAA, vBB, #+CC` (R314): low bits of the product, second operand a literal. -/
def execMulIntLit8 (aa bb cc : BitVec 8) (s : State) : StepResult :=
  runTop (intLiteral aa.toNat bb.toNat (cc.signExtend 32) mul32) s

/-- `div-int/lit8 vAA, vBB, #+CC` (R315): truncating quotient, X5 on a zero divisor, second operand a literal. -/
def execDivIntLit8 (aa bb cc : BitVec 8) (s : State) : StepResult :=
  runTop (intLiteralDivide aa.toNat bb.toNat (cc.signExtend 32) div32) s

/-- `rem-int/lit8 vAA, vBB, #+CC` (R316): truncating remainder, X5 on a zero divisor, second operand a literal. -/
def execRemIntLit8 (aa bb cc : BitVec 8) (s : State) : StepResult :=
  runTop (intLiteralDivide aa.toNat bb.toNat (cc.signExtend 32) rem32) s

/-- `and-int/lit8 vAA, vBB, #+CC` (R317): bitwise and, second operand a literal. -/
def execAndIntLit8 (aa bb cc : BitVec 8) (s : State) : StepResult :=
  runTop (intLiteral aa.toNat bb.toNat (cc.signExtend 32) and32) s

/-- `or-int/lit8 vAA, vBB, #+CC` (R318): bitwise or, second operand a literal. -/
def execOrIntLit8 (aa bb cc : BitVec 8) (s : State) : StepResult :=
  runTop (intLiteral aa.toNat bb.toNat (cc.signExtend 32) or32) s

/-- `xor-int/lit8 vAA, vBB, #+CC` (R319): bitwise exclusive or, second operand a literal. -/
def execXorIntLit8 (aa bb cc : BitVec 8) (s : State) : StepResult :=
  runTop (intLiteral aa.toNat bb.toNat (cc.signExtend 32) xor32) s

/-- `shl-int/lit8 vAA, vBB, #+CC` (R320): left shift, second operand a literal. -/
def execShlIntLit8 (aa bb cc : BitVec 8) (s : State) : StepResult :=
  runTop (intLiteral aa.toNat bb.toNat (cc.signExtend 32) shl32) s

/-- `shr-int/lit8 vAA, vBB, #+CC` (R321): arithmetic right shift, second operand a literal. -/
def execShrIntLit8 (aa bb cc : BitVec 8) (s : State) : StepResult :=
  runTop (intLiteral aa.toNat bb.toNat (cc.signExtend 32) shr32) s

/-- `ushr-int/lit8 vAA, vBB, #+CC` (R322): logical right shift, second operand a literal. -/
def execUshrIntLit8 (aa bb cc : BitVec 8) (s : State) : StepResult :=
  runTop (intLiteral aa.toNat bb.toNat (cc.signExtend 32) ushr32) s

end Sys2Proof.Machine
end

