-- ==== Sys2Proof/Machine/ArithFloat.lean ====
section
/-! DEFINITION. Floating-point arithmetic, comparison and conversion (spec/43_arith_float_conv.md). A float is the 32 bits
of a slot, a double the 64 bits of a pair (R350). No instruction of this file raises an exception or keeps a status
(R354). -/

namespace Sys2Proof.Machine

/-! ### Shared operations -/

/-- A float comparison with its bias (R356). -/
def floatCompare (dst l r : Nat) (bias : Word32) : Handler Unit := do
  let a ← readF32 l
  let b ← readF32 r
  writeI32 dst (compareFloat bias (asF32 a) (asF32 b))
  advance 2

/-- A double comparison with its bias (R356). -/
def doubleCompare (dst l r : Nat) (bias : Word32) : Handler Unit := do
  let a ← readF64 l
  let b ← readF64 r
  writeI32 dst (compareFloat bias (asF64 a) (asF64 b))
  advance 2

/-- R364. -/
def floatNegate (dst src : Nat) : Handler Unit := do
  let a ← readI32 src
  writeF32 dst (a ^^^ 0x80000000#32)
  advance 1

/-- R365. -/
def doubleNegate (dst src : Nat) : Handler Unit := do
  let a ← readI64 src
  writeI64 dst (a ^^^ 0x8000000000000000#64)
  advance 1

/-- An arithmetic operation on two floats (R351, R352). -/
def floatBinary (dst l r n : Nat) (f : FloatFormat → FloatValue → FloatValue → Option Nat) : Handler Unit := do
  let a ← readF32 l
  let b ← readF32 r
  let w ← ask (produce32 (f binary32 (asF32 a) (asF32 b)))
  writeF32 dst w
  advance n

/-- An arithmetic operation on two doubles. -/
def doubleBinary (dst l r n : Nat) (f : FloatFormat → FloatValue → FloatValue → Option Nat) : Handler Unit := do
  let a ← readF64 l
  let b ← readF64 r
  let w ← ask (produce64 (f binary64 (asF64 a) (asF64 b)))
  writeF64 dst w
  advance n

/-! ### Conversions (R357 to R359, R370 to R384) -/

/-- `RNE` of an integer, as a pattern. -/
def intBits32 (z : Int) : Word32 := BitVec.ofNat 32 (binary32.packInt z 0 false)
/-- `RNE` of an integer, as a pattern. -/
def intBits64 (z : Int) : Word64 := BitVec.ofNat 64 (binary64.packInt z 0 false)
/-- `F2I_32`. -/
def f2i32 (v : FloatValue) : Word32 := BitVec.ofInt 32 (v.toInt 31)
/-- `F2I_64`. -/
def f2i64 (v : FloatValue) : Word64 := BitVec.ofInt 64 (v.toInt 63)

/-- R370. -/
def intToLongOp (dst src : Nat) : Handler Unit := do
  let a ← readI32 src
  writeI64 dst (a.signExtend 64)
  advance 1

/-- R371. -/
def intToFloatOp (dst src : Nat) : Handler Unit := do
  let a ← readI32 src
  writeF32 dst (intBits32 a.toInt)
  advance 1

/-- R372. -/
def intToDoubleOp (dst src : Nat) : Handler Unit := do
  let a ← readI32 src
  writeF64 dst (intBits64 a.toInt)
  advance 1

/-- R373. -/
def longToIntOp (dst src : Nat) : Handler Unit := do
  let a ← readI64 src
  writeI32 dst (a.extractLsb' 0 32)
  advance 1

/-- R374: rounded once, from the 64-bit integer. -/
def longToFloatOp (dst src : Nat) : Handler Unit := do
  let a ← readI64 src
  writeF32 dst (intBits32 a.toInt)
  advance 1

/-- R375. -/
def longToDoubleOp (dst src : Nat) : Handler Unit := do
  let a ← readI64 src
  writeF64 dst (intBits64 a.toInt)
  advance 1

/-- R376. -/
def floatToIntOp (dst src : Nat) : Handler Unit := do
  let f ← readF32 src
  writeI32 dst (f2i32 (asF32 f))
  advance 1

/-- R377. -/
def floatToLongOp (dst src : Nat) : Handler Unit := do
  let f ← readF32 src
  writeI64 dst (f2i64 (asF32 f))
  advance 1

/-- R378. -/
def floatToDoubleOp (dst src : Nat) : Handler Unit := do
  let f ← readF32 src
  let w ← ask (produce64 (binary64.convert (asF32 f)))
  writeF64 dst w
  advance 1

/-- R379. -/
def doubleToIntOp (dst src : Nat) : Handler Unit := do
  let d ← readF64 src
  writeI32 dst (f2i32 (asF64 d))
  advance 1

/-- R380. -/
def doubleToLongOp (dst src : Nat) : Handler Unit := do
  let d ← readF64 src
  writeI64 dst (f2i64 (asF64 d))
  advance 1

/-- R381. -/
def doubleToFloatOp (dst src : Nat) : Handler Unit := do
  let d ← readF64 src
  let w ← ask (produce32 (binary32.convert (asF64 d)))
  writeF32 dst w
  advance 1

/-- R382. -/
def toByte32 (a : Word32) : Word32 := (a.extractLsb' 0 8).signExtend 32
/-- R383. -/
def toChar32 (a : Word32) : Word32 := (a.extractLsb' 0 16).setWidth 32
/-- R384. -/
def toShort32 (a : Word32) : Word32 := (a.extractLsb' 0 16).signExtend 32

/-! ### The instructions -/

/-- `cmpl-float vAA, vBB, vCC` (R360): the order of two values, −1 if either is a NaN. -/
def execCmplFloat (aa bb cc : BitVec 8) (s : State) : StepResult :=
  runTop (floatCompare aa.toNat bb.toNat cc.toNat 0xffffffff#32) s

/-- `cmpg-float vAA, vBB, vCC` (R361): the order of two values, +1 if either is a NaN. -/
def execCmpgFloat (aa bb cc : BitVec 8) (s : State) : StepResult :=
  runTop (floatCompare aa.toNat bb.toNat cc.toNat 1#32) s

/-- `cmpl-double vAA, vBB, vCC` (R362): the order of two values, −1 if either is a NaN. -/
def execCmplDouble (aa bb cc : BitVec 8) (s : State) : StepResult :=
  runTop (doubleCompare aa.toNat bb.toNat cc.toNat 0xffffffff#32) s

/-- `cmpg-double vAA, vBB, vCC` (R363): the order of two values, +1 if either is a NaN. -/
def execCmpgDouble (aa bb cc : BitVec 8) (s : State) : StepResult :=
  runTop (doubleCompare aa.toNat bb.toNat cc.toNat 1#32) s

/-- `neg-float vA, vB` (R364): the sign bit flipped. -/
def execNegFloat (a b : BitVec 4) (s : State) : StepResult := runTop (floatNegate a.toNat b.toNat) s

/-- `neg-double vA, vB` (R365): the sign bit flipped. -/
def execNegDouble (a b : BitVec 4) (s : State) : StepResult := runTop (doubleNegate a.toNat b.toNat) s

/-- `int-to-long vA, vB` (R370): sign extension. -/
def execIntToLong (a b : BitVec 4) (s : State) : StepResult := runTop (intToLongOp a.toNat b.toNat) s

/-- `int-to-float vA, vB` (R371): rounded. -/
def execIntToFloat (a b : BitVec 4) (s : State) : StepResult := runTop (intToFloatOp a.toNat b.toNat) s

/-- `int-to-double vA, vB` (R372): exact. -/
def execIntToDouble (a b : BitVec 4) (s : State) : StepResult := runTop (intToDoubleOp a.toNat b.toNat) s

/-- `long-to-int vA, vB` (R373): the low 32 bits. -/
def execLongToInt (a b : BitVec 4) (s : State) : StepResult := runTop (longToIntOp a.toNat b.toNat) s

/-- `long-to-float vA, vB` (R374): rounded. -/
def execLongToFloat (a b : BitVec 4) (s : State) : StepResult := runTop (longToFloatOp a.toNat b.toNat) s

/-- `long-to-double vA, vB` (R375): rounded. -/
def execLongToDouble (a b : BitVec 4) (s : State) : StepResult := runTop (longToDoubleOp a.toNat b.toNat) s

/-- `float-to-int vA, vB` (R376): saturating truncation. -/
def execFloatToInt (a b : BitVec 4) (s : State) : StepResult := runTop (floatToIntOp a.toNat b.toNat) s

/-- `float-to-long vA, vB` (R377): saturating truncation. -/
def execFloatToLong (a b : BitVec 4) (s : State) : StepResult := runTop (floatToLongOp a.toNat b.toNat) s

/-- `float-to-double vA, vB` (R378): exact. -/
def execFloatToDouble (a b : BitVec 4) (s : State) : StepResult := runTop (floatToDoubleOp a.toNat b.toNat) s

/-- `double-to-int vA, vB` (R379): saturating truncation. -/
def execDoubleToInt (a b : BitVec 4) (s : State) : StepResult := runTop (doubleToIntOp a.toNat b.toNat) s

/-- `double-to-long vA, vB` (R380): saturating truncation. -/
def execDoubleToLong (a b : BitVec 4) (s : State) : StepResult := runTop (doubleToLongOp a.toNat b.toNat) s

/-- `double-to-float vA, vB` (R381): rounded. -/
def execDoubleToFloat (a b : BitVec 4) (s : State) : StepResult := runTop (doubleToFloatOp a.toNat b.toNat) s

/-- `int-to-byte vA, vB` (R382): the low 8 bits, sign-extended. -/
def execIntToByte (a b : BitVec 4) (s : State) : StepResult := runTop (intUnary a.toNat b.toNat toByte32) s

/-- `int-to-char vA, vB` (R383): the low 16 bits, zero-extended. -/
def execIntToChar (a b : BitVec 4) (s : State) : StepResult := runTop (intUnary a.toNat b.toNat toChar32) s

/-- `int-to-short vA, vB` (R384): the low 16 bits, sign-extended. -/
def execIntToShort (a b : BitVec 4) (s : State) : StepResult := runTop (intUnary a.toNat b.toNat toShort32) s

/-- `add-float vAA, vBB, vCC` (R390): rounded sum. -/
def execAddFloat (aa bb cc : BitVec 8) (s : State) : StepResult :=
  runTop (floatBinary aa.toNat bb.toNat cc.toNat 2 FloatFormat.add) s

/-- `sub-float vAA, vBB, vCC` (R391): rounded difference. -/
def execSubFloat (aa bb cc : BitVec 8) (s : State) : StepResult :=
  runTop (floatBinary aa.toNat bb.toNat cc.toNat 2 FloatFormat.sub) s

/-- `mul-float vAA, vBB, vCC` (R392): rounded product. -/
def execMulFloat (aa bb cc : BitVec 8) (s : State) : StepResult :=
  runTop (floatBinary aa.toNat bb.toNat cc.toNat 2 FloatFormat.mul) s

/-- `div-float vAA, vBB, vCC` (R393): rounded quotient. -/
def execDivFloat (aa bb cc : BitVec 8) (s : State) : StepResult :=
  runTop (floatBinary aa.toNat bb.toNat cc.toNat 2 FloatFormat.div) s

/-- `rem-float vAA, vBB, vCC` (R394): truncating remainder. -/
def execRemFloat (aa bb cc : BitVec 8) (s : State) : StepResult :=
  runTop (floatBinary aa.toNat bb.toNat cc.toNat 2 FloatFormat.rem) s

/-- `add-double vAA, vBB, vCC` (R395): rounded sum. -/
def execAddDouble (aa bb cc : BitVec 8) (s : State) : StepResult :=
  runTop (doubleBinary aa.toNat bb.toNat cc.toNat 2 FloatFormat.add) s

/-- `sub-double vAA, vBB, vCC` (R396): rounded difference. -/
def execSubDouble (aa bb cc : BitVec 8) (s : State) : StepResult :=
  runTop (doubleBinary aa.toNat bb.toNat cc.toNat 2 FloatFormat.sub) s

/-- `mul-double vAA, vBB, vCC` (R397): rounded product. -/
def execMulDouble (aa bb cc : BitVec 8) (s : State) : StepResult :=
  runTop (doubleBinary aa.toNat bb.toNat cc.toNat 2 FloatFormat.mul) s

/-- `div-double vAA, vBB, vCC` (R398): rounded quotient. -/
def execDivDouble (aa bb cc : BitVec 8) (s : State) : StepResult :=
  runTop (doubleBinary aa.toNat bb.toNat cc.toNat 2 FloatFormat.div) s

/-- `rem-double vAA, vBB, vCC` (R399): truncating remainder. -/
def execRemDouble (aa bb cc : BitVec 8) (s : State) : StepResult :=
  runTop (doubleBinary aa.toNat bb.toNat cc.toNat 2 FloatFormat.rem) s

/-- `add-float/2addr vA, vB` (R400): rounded sum. -/
def execAddFloat2addr (a b : BitVec 4) (s : State) : StepResult :=
  runTop (floatBinary a.toNat a.toNat b.toNat 1 FloatFormat.add) s

/-- `sub-float/2addr vA, vB` (R401): rounded difference. -/
def execSubFloat2addr (a b : BitVec 4) (s : State) : StepResult :=
  runTop (floatBinary a.toNat a.toNat b.toNat 1 FloatFormat.sub) s

/-- `mul-float/2addr vA, vB` (R402): rounded product. -/
def execMulFloat2addr (a b : BitVec 4) (s : State) : StepResult :=
  runTop (floatBinary a.toNat a.toNat b.toNat 1 FloatFormat.mul) s

/-- `div-float/2addr vA, vB` (R403): rounded quotient. -/
def execDivFloat2addr (a b : BitVec 4) (s : State) : StepResult :=
  runTop (floatBinary a.toNat a.toNat b.toNat 1 FloatFormat.div) s

/-- `rem-float/2addr vA, vB` (R404): truncating remainder. -/
def execRemFloat2addr (a b : BitVec 4) (s : State) : StepResult :=
  runTop (floatBinary a.toNat a.toNat b.toNat 1 FloatFormat.rem) s

/-- `add-double/2addr vA, vB` (R405): rounded sum. -/
def execAddDouble2addr (a b : BitVec 4) (s : State) : StepResult :=
  runTop (doubleBinary a.toNat a.toNat b.toNat 1 FloatFormat.add) s

/-- `sub-double/2addr vA, vB` (R406): rounded difference. -/
def execSubDouble2addr (a b : BitVec 4) (s : State) : StepResult :=
  runTop (doubleBinary a.toNat a.toNat b.toNat 1 FloatFormat.sub) s

/-- `mul-double/2addr vA, vB` (R407): rounded product. -/
def execMulDouble2addr (a b : BitVec 4) (s : State) : StepResult :=
  runTop (doubleBinary a.toNat a.toNat b.toNat 1 FloatFormat.mul) s

/-- `div-double/2addr vA, vB` (R408): rounded quotient. -/
def execDivDouble2addr (a b : BitVec 4) (s : State) : StepResult :=
  runTop (doubleBinary a.toNat a.toNat b.toNat 1 FloatFormat.div) s

/-- `rem-double/2addr vA, vB` (R409): truncating remainder. -/
def execRemDouble2addr (a b : BitVec 4) (s : State) : StepResult :=
  runTop (doubleBinary a.toNat a.toNat b.toNat 1 FloatFormat.rem) s

end Sys2Proof.Machine
end

