-- ==== Sys2Proof/Machine/Control.lean ====
section
/-! DEFINITION. Control flow: branches, switches, throw, return, monitors (spec/44_control_flow.md). -/

namespace Sys2Proof.Machine

/-! ### Branches (R424) -/

/-- A two-register conditional branch, format 22t. -/
def branchIf (c : Cond) (l r : Nat) (off : BitVec 16) : Handler Unit := do
  let a ← readI32 l
  let b ← readI32 r
  if c.holds a.toInt b.toInt then jump off.toInt else advance 2

/-- A conditional branch on one register and zero, format 21t. -/
def branchIfZero (c : Cond) (l : Nat) (off : BitVec 16) : Handler Unit := do
  let a ← readI32 l
  if c.holds a.toInt 0 then jump off.toInt else advance 2

/-! ### Switches (R437 to R440) -/

/-- The first unit of a payload table must be its magic, else F2 (R91). -/
def checkMagic (magic : CodeUnit) (t : Int) : Handler Unit := do
  let u ← readUnit t
  if u = magic then pure () else faultWith (.badMagic t u)

/-- R437, R438. The index wraps at 32 bits. -/
def packedSwitchOn (src : Nat) (off : Word32) : Handler Unit := do
  let v ← readI32 src
  let a ← getTop
  let t : Int := a.pc + off.toInt
  checkMagic 0x0100#16 t
  let size ← readUnit (t + 1)
  let first ← readUnit32 (t + 2)
  let idx := (BitVec.ofInt 32 (v.toInt - first.toInt)).toInt
  if 0 ≤ idx ∧ idx < size.toNat then do
    let target ← readUnit32 (t + 4 + 2 * idx)
    jump target.toInt
  else advance 3

/-- The keys are strictly ascending as signed values. -/
def ascending : List Word32 → Bool
  | a :: b :: rest => decide (a.toInt < b.toInt) && ascending (b :: rest)
  | _ => true

/-- R439, R440. All keys are read and their order checked before the match. -/
def sparseSwitchOn (src : Nat) (off : Word32) : Handler Unit := do
  let v ← readI32 src
  let a ← getTop
  let t : Int := a.pc + off.toInt
  checkMagic 0x0200#16 t
  let size ← readUnit (t + 1)
  let keys ← checked (a.method.units32 (t + 2) size.toNat)
  if ascending keys then
    match keys.idxOf? v with
    | some j => do
      let target ← readUnit32 (t + 2 + 2 * size.toNat + 2 * j)
      jump target.toInt
    | none => advance 3
  else faultWith (.badTable t)

/-! ### Throw and return (R441 to R446) -/

/-- throw (R441). -/
def throwRef (src : Nat) : Handler Unit := do
  let h ← readRef src
  if h = null then raise (.new (.nullPointer .throw)) else raise (.thrown h)

/-- `finish(v)`: ST ← FINISHED with the value staged; pc stays (R446). -/
def finish (v : ReturnValue) : Handler Unit := do
  let a ← getTop
  setTop { a with st := .finished, ret := v }

/-- `check-return` failed: F4(pc0) (R446). -/
def returnMismatch : Handler Unit := do
  let a ← getTop
  faultWith (.paramMismatch a.pc)

/-- R442. -/
def finishVoid : Handler Unit := do
  let a ← getTop
  match a.method.shorty.ret with
  | none => finish .void
  | some _ => returnMismatch

/-- R443. -/
def finishI32 (src : Nat) : Handler Unit := do
  let v ← readI32 src
  let a ← getTop
  match a.method.shorty.ret with
  | some (.w32 c) => finish (.value (.w32 c v))
  | _ => returnMismatch

/-- R444. -/
def finishI64 (src : Nat) : Handler Unit := do
  let v ← readI64 src
  let a ← getTop
  match a.method.shorty.ret with
  | some (.w64 c) => finish (.value (.w64 c v))
  | _ => returnMismatch

/-- R445. -/
def finishRef (src : Nat) : Handler Unit := do
  let h ← readRef src
  let a ← getTop
  match a.method.shorty.ret with
  | some .L => finish (.value (.ref h))
  | _ => returnMismatch

/-! ### Monitors (R455 to R457) -/

/-- A NULL monitor operand: the parameter MONITOR_NULL says F11(pc0) or X1 (R455). -/
def nullMonitor (pc0 : Nat) : Handler Unit := do
  let c ← get
  match c.params.monitorNull with
  | .fault => faultWith (.nullMonitor pc0)
  | .npe => raise (.new (.nullPointer .monitor))

/-- A monitor-enter that is never answered: the engine takes no step (R456). -/
def noAnswer : Handler Unit := fun c => .error .unanswered c

/-- monitor-enter (R456). -/
def acquireMonitor (src : Nat) : Handler Unit := do
  let h ← readRef src
  let a ← getTop
  if h = null then nullMonitor a.pc
  else do
    let r ← ask (monitorEnterOn h)
    match r with
    | .acquired => advance 1
    | .fails e => raise (.host e)
    | .unanswered => noAnswer

/-- monitor-exit (R457): the cursor advances before the null check and the unlock. -/
def releaseMonitor (src : Nat) : Handler Unit := do
  let h ← readRef src
  let a ← getTop
  advance 1
  if h = null then nullMonitor a.pc
  else do
    let r ← ask (monitorExitOn h)
    orHost r

/-! ### The instructions -/

/-- `return-void` (R442): ends the activation. -/
def execReturnVoid (s : State) : StepResult := runTop finishVoid s

/-- `return vAA` (R443): ends the activation with a 32-bit value. -/
def execReturnVal (aa : BitVec 8) (s : State) : StepResult := runTop (finishI32 aa.toNat) s

/-- `return-wide vAA` (R444): ends the activation with a pair. -/
def execReturnWide (aa : BitVec 8) (s : State) : StepResult := runTop (finishI64 aa.toNat) s

/-- `return-object vAA` (R445): ends the activation with a reference. -/
def execReturnObject (aa : BitVec 8) (s : State) : StepResult := runTop (finishRef aa.toNat) s

/-- `monitor-enter vAA` (R456): acquires before the next instruction. -/
def execMonitorEnter (aa : BitVec 8) (s : State) : StepResult := runTop (acquireMonitor aa.toNat) s

/-- `monitor-exit vAA` (R457): advances before it releases. -/
def execMonitorExit (aa : BitVec 8) (s : State) : StepResult := runTop (releaseMonitor aa.toNat) s

/-- `throw vAA` (R441): X9 with the object, X1 on NULL. -/
def execThrowObj (aa : BitVec 8) (s : State) : StepResult := runTop (throwRef aa.toNat) s

/-- `goto +AA` (R421): 8-bit offset. -/
def execGoto (aa : BitVec 8) (s : State) : StepResult := runTop (jump aa.toInt) s

/-- `goto/16 +AAAA` (R422): 16-bit offset. -/
def execGoto16 (aaaa : BitVec 16) (s : State) : StepResult := runTop (jump aaaa.toInt) s

/-- `goto/32 +AAAAAAAA` (R423): 32-bit offset. -/
def execGoto32 (off : BitVec 32) (s : State) : StepResult := runTop (jump off.toInt) s

/-- `packed-switch vAA, +BBBBBBBB` (R438): the target at index vAA − firstKey. -/
def execPackedSwitch (aa : BitVec 8) (off : BitVec 32) (s : State) : StepResult :=
  runTop (packedSwitchOn aa.toNat off) s

/-- `sparse-switch vAA, +BBBBBBBB` (R440): the target of the key equal to vAA. -/
def execSparseSwitch (aa : BitVec 8) (off : BitVec 32) (s : State) : StepResult :=
  runTop (sparseSwitchOn aa.toNat off) s

/-- `if-eq vA, vB, +CCCC` (R425): taken when vA = vB, signed. -/
def execIfEq (a b : BitVec 4) (cccc : BitVec 16) (s : State) : StepResult :=
  runTop (branchIf .eq a.toNat b.toNat cccc) s

/-- `if-ne vA, vB, +CCCC` (R426): taken when vA ≠ vB, signed. -/
def execIfNe (a b : BitVec 4) (cccc : BitVec 16) (s : State) : StepResult :=
  runTop (branchIf .ne a.toNat b.toNat cccc) s

/-- `if-lt vA, vB, +CCCC` (R427): taken when vA < vB, signed. -/
def execIfLt (a b : BitVec 4) (cccc : BitVec 16) (s : State) : StepResult :=
  runTop (branchIf .lt a.toNat b.toNat cccc) s

/-- `if-ge vA, vB, +CCCC` (R428): taken when vA ≥ vB, signed. -/
def execIfGe (a b : BitVec 4) (cccc : BitVec 16) (s : State) : StepResult :=
  runTop (branchIf .ge a.toNat b.toNat cccc) s

/-- `if-gt vA, vB, +CCCC` (R429): taken when vA > vB, signed. -/
def execIfGt (a b : BitVec 4) (cccc : BitVec 16) (s : State) : StepResult :=
  runTop (branchIf .gt a.toNat b.toNat cccc) s

/-- `if-le vA, vB, +CCCC` (R430): taken when vA ≤ vB, signed. -/
def execIfLe (a b : BitVec 4) (cccc : BitVec 16) (s : State) : StepResult :=
  runTop (branchIf .le a.toNat b.toNat cccc) s

/-- `if-eqz vAA, +BBBB` (R431): taken when vAA = 0, signed. -/
def execIfEqz (aa : BitVec 8) (bbbb : BitVec 16) (s : State) : StepResult := runTop (branchIfZero .eq aa.toNat bbbb) s

/-- `if-nez vAA, +BBBB` (R432): taken when vAA ≠ 0, signed. -/
def execIfNez (aa : BitVec 8) (bbbb : BitVec 16) (s : State) : StepResult := runTop (branchIfZero .ne aa.toNat bbbb) s

/-- `if-ltz vAA, +BBBB` (R433): taken when vAA < 0, signed. -/
def execIfLtz (aa : BitVec 8) (bbbb : BitVec 16) (s : State) : StepResult := runTop (branchIfZero .lt aa.toNat bbbb) s

/-- `if-gez vAA, +BBBB` (R434): taken when vAA ≥ 0, signed. -/
def execIfGez (aa : BitVec 8) (bbbb : BitVec 16) (s : State) : StepResult := runTop (branchIfZero .ge aa.toNat bbbb) s

/-- `if-gtz vAA, +BBBB` (R435): taken when vAA > 0, signed. -/
def execIfGtz (aa : BitVec 8) (bbbb : BitVec 16) (s : State) : StepResult := runTop (branchIfZero .gt aa.toNat bbbb) s

/-- `if-lez vAA, +BBBB` (R436): taken when vAA ≤ 0, signed. -/
def execIfLez (aa : BitVec 8) (bbbb : BitVec 16) (s : State) : StepResult := runTop (branchIfZero .le aa.toNat bbbb) s

end Sys2Proof.Machine
end

