-- ==== Sys2Proof/Machine/MoveConst.lean ====
section
/-! DEFINITION. Data movement and constant loads (spec/41_move_const.md). Every source is read before the destination is
written (R46); a pair's halves are written together (R39). -/

namespace Sys2Proof.Machine

/-! ### Shared operations -/

/-- A 32-bit move (R202). -/
def moveI32 (dst src n : Nat) : Handler Unit := do
  let v ← readI32 src
  writeI32 dst v
  advance n

/-- A pair move (R205). -/
def moveI64 (dst src n : Nat) : Handler Unit := do
  let v ← readI64 src
  writeI64 dst v
  advance n

/-- A reference move (R208). -/
def moveRef (dst src n : Nat) : Handler Unit := do
  let h ← readRef src
  writeRef dst h
  advance n

/-- The word of RV, or F7(RV) when RVW = 0 (R212). -/
def readRV : Handler Word64 := do
  let a ← getTop
  if a.rvw then pure a.rv else faultWith (.uninitRead .rv)

/-- R213. -/
def moveResultI32 (dst : Nat) : Handler Unit := do
  let w ← readRV
  writeI32 dst (w.setWidth 32)
  advance 1

/-- R214. -/
def moveResultI64 (dst : Nat) : Handler Unit := do
  let w ← readRV
  writeI64 dst w
  advance 1

/-- R215. -/
def moveResultRef (dst : Nat) : Handler Unit := do
  let w ← readRV
  writeRef dst w
  advance 1

/-- Empty EXC. -/
def clearExc : Handler Unit := do
  let a ← getTop
  setTop { a with exc := none }

/-- The caught exception to a register (R216); F5 when EXC is empty. -/
def takeCaught (dst : Nat) : Handler Unit := do
  let a ← getTop
  match a.exc with
  | none => faultWith (.noPendingException a.pc)
  | some h => do
    writeRef dst h
    clearExc
    advance 1

/-- A 32-bit constant (R217 to R220). -/
def loadI32 (dst n : Nat) (v : Word32) : Handler Unit := do
  writeI32 dst v
  advance n

/-- A 64-bit constant (R221 to R224). -/
def loadI64 (dst n : Nat) (v : Word64) : Handler Unit := do
  writeI64 dst v
  advance n

/-- A string reference (R225, R226). -/
def loadString (dst n idx : Nat) : Handler Unit := do
  let s ← ask (resolveString idx)
  writeRef dst s
  advance n

/-- The reference of `resolveClass`, or X7 (R227). -/
def classRef (idx : Nat) : Handler Handle := do
  let r ← ask (resolveClass idx)
  orResolution r

/-- A class reference (R227). -/
def loadClass (dst idx : Nat) : Handler Unit := do
  let c ← classRef idx
  writeRef dst c
  advance 2

/-! ### The instructions -/

/-- `nop` (R201): no effect but the cursor. -/
def execNop (s : State) : StepResult := runTop (advance 1) s

/-- `move vA, vB` (R202): the source register copied to the destination through the int view. -/
def execMove (a b : BitVec 4) (s : State) : StepResult := runTop (moveI32 a.toNat b.toNat 1) s

/-- `move/from16 vAA, vBBBB` (R203): the source register copied to the destination through the int view. -/
def execMoveFrom16 (aa : BitVec 8) (bbbb : BitVec 16) (s : State) : StepResult :=
  runTop (moveI32 aa.toNat bbbb.toNat 2) s

/-- `move/16 vAAAA, vBBBB` (R204): the source register copied to the destination through the int view. -/
def execMove16 (aaaa bbbb : BitVec 16) (s : State) : StepResult := runTop (moveI32 aaaa.toNat bbbb.toNat 3) s

/-- `move-wide vA, vB` (R205): the source register copied to the destination through the 64-bit pair view. -/
def execMoveWide (a b : BitVec 4) (s : State) : StepResult := runTop (moveI64 a.toNat b.toNat 1) s

/-- `move-wide/from16 vAA, vBBBB` (R206): the source register copied to the destination through the 64-bit pair view. -/
def execMoveWideFrom16 (aa : BitVec 8) (bbbb : BitVec 16) (s : State) : StepResult :=
  runTop (moveI64 aa.toNat bbbb.toNat 2) s

/-- `move-wide/16 vAAAA, vBBBB` (R207): the source register copied to the destination through the 64-bit pair view. -/
def execMoveWide16 (aaaa bbbb : BitVec 16) (s : State) : StepResult := runTop (moveI64 aaaa.toNat bbbb.toNat 3) s

/-- `move-object vA, vB` (R208): the source register copied to the destination through the reference view. -/
def execMoveObject (a b : BitVec 4) (s : State) : StepResult := runTop (moveRef a.toNat b.toNat 1) s

/-- `move-object/from16 vAA, vBBBB` (R209): the source register copied to the destination through the reference view. -/
def execMoveObjectFrom16 (aa : BitVec 8) (bbbb : BitVec 16) (s : State) : StepResult :=
  runTop (moveRef aa.toNat bbbb.toNat 2) s

/-- `move-object/16 vAAAA, vBBBB` (R210): the source register copied to the destination through the reference view. -/
def execMoveObject16 (aaaa bbbb : BitVec 16) (s : State) : StepResult := runTop (moveRef aaaa.toNat bbbb.toNat 3) s

/-- `move-result vAA` (R213): RV to a register, int view. -/
def execMoveResult (aa : BitVec 8) (s : State) : StepResult := runTop (moveResultI32 aa.toNat) s

/-- `move-result-wide vAA` (R214): RV to a pair. -/
def execMoveResultWide (aa : BitVec 8) (s : State) : StepResult := runTop (moveResultI64 aa.toNat) s

/-- `move-result-object vAA` (R215): RV to a register, reference view. -/
def execMoveResultObject (aa : BitVec 8) (s : State) : StepResult := runTop (moveResultRef aa.toNat) s

/-- `move-exception vAA` (R216): EXC to a register, EXC emptied. -/
def execMoveException (aa : BitVec 8) (s : State) : StepResult := runTop (takeCaught aa.toNat) s

/-- `const/4 vA, #+B` (R217): a 4-bit signed literal. -/
def execConst4 (a b : BitVec 4) (s : State) : StepResult := runTop (loadI32 a.toNat 1 (b.signExtend 32)) s

/-- `const/16 vAA, #+BBBB` (R218): a 16-bit signed literal. -/
def execConst16 (aa : BitVec 8) (bbbb : BitVec 16) (s : State) : StepResult :=
  runTop (loadI32 aa.toNat 2 (bbbb.signExtend 32)) s

/-- `const vAA, #+BBBBBBBB` (R219): a 32-bit literal. -/
def execConst32 (aa : BitVec 8) (lit : BitVec 32) (s : State) : StepResult := runTop (loadI32 aa.toNat 3 lit) s

/-- `const/high16 vAA, #+BBBB at the top` (R220): the top 16 bits of an int. -/
def execConstHigh16 (aa : BitVec 8) (bbbb : BitVec 16) (s : State) : StepResult :=
  runTop (loadI32 aa.toNat 2 (bbbb ++ 0#16)) s

/-- `const-wide/16 vAA, #+BBBB` (R221): a 16-bit signed literal, to a pair. -/
def execConstWide16 (aa : BitVec 8) (bbbb : BitVec 16) (s : State) : StepResult :=
  runTop (loadI64 aa.toNat 2 (bbbb.signExtend 64)) s

/-- `const-wide/32 vAA, #+BBBBBBBB` (R222): a 32-bit signed literal, to a pair. -/
def execConstWide32 (aa : BitVec 8) (lit : BitVec 32) (s : State) : StepResult :=
  runTop (loadI64 aa.toNat 3 (lit.signExtend 64)) s

/-- `const-wide vAA, #+BBBBBBBBBBBBBBBB` (R223): a 64-bit literal, to a pair. -/
def execConstWide (aa : BitVec 8) (lit : BitVec 64) (s : State) : StepResult := runTop (loadI64 aa.toNat 5 lit) s

/-- `const-wide/high16 vAA, #+BBBB at the top` (R224): the top 16 bits of a long, to a pair. -/
def execConstWideHigh16 (aa : BitVec 8) (bbbb : BitVec 16) (s : State) : StepResult :=
  runTop (loadI64 aa.toNat 2 (bbbb ++ 0#48)) s

/-- `const-string vAA, pool@BBBB` (R225): a string of the pool. -/
def execConstString (aa : BitVec 8) (bbbb : BitVec 16) (s : State) : StepResult :=
  runTop (loadString aa.toNat 2 bbbb.toNat) s

/-- `const-string/jumbo vAA, string@BBBBBBBB` (R226): a string of the pool, 32-bit index. -/
def execConstStringJumbo (aa : BitVec 8) (idx : BitVec 32) (s : State) : StepResult :=
  runTop (loadString aa.toNat 3 idx.toNat) s

/-- `const-class vAA, pool@BBBB` (R227): a class of the pool. -/
def execConstClass (aa : BitVec 8) (bbbb : BitVec 16) (s : State) : StepResult :=
  runTop (loadClass aa.toNat bbbb.toNat) s

end Sys2Proof.Machine
end

