-- ==== Sys2Proof/Machine/Objects.lean ====
section
/-! DEFINITION. Objects, arrays and fields (spec/45_object_array_field.md). Every object, element and field is reached by
one port transaction; the checks run in the order the rules write them. -/

namespace Sys2Proof.Machine

/-! ### Objects and types (R471 to R475) -/

/-- X1 when a reference is NULL. -/
def requireNonNull (h : Handle) (what : NullWhat) : Handler Unit :=
  if h = null then raise (.new (.nullPointer what)) else pure ()

/-- R471. -/
def lengthOf (dst src : Nat) : Handler Unit := do
  let arr ← readRef src
  requireNonNull arr .array
  let n ← ask (arrayLength arr)
  writeI32 dst n
  advance 1

/-- R472. -/
def allocObject (dst idx : Nat) : Handler Unit := do
  let c ← classRef idx
  let r ← ask (newObject c)
  let o ← orHost r
  writeRef dst o
  advance 2

/-- R473. -/
def allocArrayOf (dst src idx : Nat) : Handler Unit := do
  let n ← readI32 src
  let _ ← classRef idx
  if n.toInt < 0 then raise (.new (.negativeArraySize n.toInt))
  else do
    let r ← ask (allocArray n.toNat idx)
    let arr ← orResolution r
    writeRef dst arr
    advance 2

/-- Whether a reference is NULL or an instance of a class. The host is asked only of a non-null one. -/
def instanceOrNull (h cls : Handle) (onNull : Bool) : Handler Bool :=
  if h = null then pure onNull else ask (isInstanceOf h cls)

/-- R474. -/
def castCheck (src idx : Nat) : Handler Unit := do
  let h ← readRef src
  let c ← classRef idx
  let ok ← instanceOrNull h c true
  if ok then advance 2
  else do
    let actual ← ask (classOf h)
    raise (.new (.classCast actual c))

/-- R475. -/
def instanceTest (dst src idx : Nat) : Handler Unit := do
  let h ← readRef src
  let c ← classRef idx
  let ok ← instanceOrNull h c false
  writeI32 dst (if ok then 1#32 else 0#32)
  advance 2

/-! ### Array fill and filled arrays (R476 to R481) -/

/-- R476, R477. A host that refuses the store raises X8 (R604, assumption 29). -/
def fillFromTable (src : Nat) (off : Word32) : Handler Unit := do
  let arr ← readRef src
  requireNonNull arr .array
  let a ← getTop
  let t : Int := a.pc + off.toInt
  checkMagic 0x0300#16 t
  let width ← readUnit (t + 1)
  if width.toNat = 1 ∨ width.toNat = 2 ∨ width.toNat = 4 ∨ width.toNat = 8 then do
    let count ← readUnit32 (t + 2)
    let len ← ask (arrayLength arr)
    if len.toNat < count.toNat then raise (.new (.arrayIndex len.toNat count.toNat))
    else do
      let elements ← checked (a.method.elements width.toNat (2 * (t + 4)) count.toNat)
      let r ← ask (arraySetRegion arr 0 count.toNat (.raw width.toNat elements))
      orHost r
      advance 3
  else faultWith (.badTable t)

/-- The values of a filled-new-array of an element kind: ints for I, references for L and `[`, else X6 (R478, R479). -/
def readFilled (k : ElemKind) (regs : List Nat) : Handler RegionValues := do
  let a ← getTop
  match k with
  | .code (.w32 .I) => checked ((a.i32s regs).map .ints)
  | .code .L => checked ((a.refs regs).map (.refs k))
  | .array => checked ((a.refs regs).map (.refs k))
  | _ => raise (.new (.internalError k))

/-- R478: the array is left in RV. A host that refuses the store raises X8 (R604, assumption 29). -/
def filledArray (idx : Nat) (regs : List Nat) : Handler Unit := do
  let k ← ask (arrayElementType idx)
  let values ← readFilled k regs
  let r ← ask (allocArray regs.length idx)
  let arr ← orResolution r
  let stored ← ask (arraySetRegion arr 0 regs.length values)
  orHost stored
  let a ← getTop
  setTop ((a.putResult (.value (.ref arr))).advance 3)

/-- The packed form's count check: F9(pc0) when A > 5 (R554, R478), before any other step. -/
def checkCount (count : BitVec 4) : Handler Unit := do
  let a ← getTop
  if 5 < count.toNat then faultWith (.malformed a.pc) else pure ()

/-- R480. -/
def filledPacked (count : BitVec 4) (idx : Nat) (c d e f g : BitVec 4) : Handler Unit := do
  checkCount count
  filledArray idx (packedRegs count c d e f g)

/-! ### Array elements (R482 to R497) -/

/-- The null and bounds checks of an element access: X1, then X2 with the length and the index. -/
def checkElement (arr : Handle) (idx : Int) : Handler Unit := do
  requireNonNull arr .array
  let len ← ask (arrayLength arr)
  if idx < 0 ∨ (len.toNat : Int) ≤ idx then raise (.new (.arrayIndex len.toNat idx)) else pure ()

/-- The bits of the element at `vCC` of the array `vBB`, asked for by an element code. -/
def getElement (code : TypeCode) (arrReg idxReg : Nat) : Handler Word64 := do
  let arr ← readRef arrReg
  let idx ← readI32 idxReg
  checkElement arr idx.toInt
  ask (arrayGet arr code idx.toInt)

/-- aget and its narrow variants. -/
def getElement32 (c : Code32) (dst arrReg idxReg : Nat) : Handler Unit := do
  let e ← getElement (.w32 c) arrReg idxReg
  writeI32 dst (widen c (e.setWidth 32))
  advance 2

/-- aget-wide. -/
def getElement64 (dst arrReg idxReg : Nat) : Handler Unit := do
  let e ← getElement (.w64 .J) arrReg idxReg
  writeI64 dst e
  advance 2

/-- aget-object. -/
def getElementRef (dst arrReg idxReg : Nat) : Handler Unit := do
  let e ← getElement .L arrReg idxReg
  writeRef dst e
  advance 2

/-- aput and its narrow variants: the value is read first (R490). -/
def putElement32 (c : Code32) (src arrReg idxReg : Nat) : Handler Unit := do
  let v ← readI32 src
  let arr ← readRef arrReg
  let idx ← readI32 idxReg
  checkElement arr idx.toInt
  ask (arraySet arr idx.toInt (.w32 c (narrow c v)))
  advance 2

/-- aput-wide. -/
def putElement64 (src arrReg idxReg : Nat) : Handler Unit := do
  let v ← readI64 src
  let arr ← readRef arrReg
  let idx ← readI32 idxReg
  checkElement arr idx.toInt
  ask (arraySet arr idx.toInt (.w64 .J v))
  advance 2

/-- aput-object: the host may refuse the store (X8). -/
def putElementRef (src arrReg idxReg : Nat) : Handler Unit := do
  let v ← readRef src
  let arr ← readRef arrReg
  let idx ← readI32 idxReg
  checkElement arr idx.toInt
  let r ← ask (arraySetRef arr idx.toInt v)
  orHost r
  advance 2

/-! ### Fields (R498 to R529) -/

/-- `writeField(d, r)` (R498): the register path is the returned code's, not the opcode's. -/
def writeField (dst : Nat) (v : TypedValue) : Handler Unit :=
  match v with
  | .w32 .F bits => writeF32 dst bits
  | .w32 c bits => writeI32 dst (widen c bits)
  | .w64 _ bits => writeI64 dst bits
  | .ref h => writeRef dst h

/-- The value of a code that a register holds (R506, R560). -/
def readTyped (c : TypeCode) (r : Nat) : Handler TypedValue := do checked ((← getTop).typed c r)

/-- The common end of a field get. -/
def getField (dst idx : Nat) (inst : Handle) : Handler Unit := do
  let r ← ask (resolveField idx inst)
  let v ← orResolution r
  writeField dst v
  advance 2

/-- The common end of a field put. -/
def putField (idx : Nat) (inst : Handle) (v : TypedValue) : Handler Unit := do
  let r ← ask (resolveSetField idx inst v)
  orResolution r
  advance 2

/-- iget*: the null check precedes resolution (R498). -/
def getInstanceField (dst objReg idx : Nat) : Handler Unit := do
  let obj ← readRef objReg
  requireNonNull obj .object
  getField dst idx obj

/-- iput*: the value is read first (R506). -/
def putInstanceField (code : TypeCode) (src objReg idx : Nat) : Handler Unit := do
  let v ← readTyped code src
  let obj ← readRef objReg
  requireNonNull obj .object
  putField idx obj v

/-- sget*: a NULL instance means a static access (R514). -/
def getStaticField (dst idx : Nat) : Handler Unit := getField dst idx null

/-- sput*. -/
def putStaticField (code : TypeCode) (src idx : Nat) : Handler Unit := do
  let v ← readTyped code src
  putField idx null v

/-! ### The instructions -/

/-- `check-cast vAA, pool@BBBB` (R474): X4 when a non-null reference is no instance. -/
def execCheckCast (aa : BitVec 8) (bbbb : BitVec 16) (s : State) : StepResult :=
  runTop (castCheck aa.toNat bbbb.toNat) s

/-- `instance-of vA, vB, pool@CCCC` (R475): 1 or 0. -/
def execInstanceOf (a b : BitVec 4) (cccc : BitVec 16) (s : State) : StepResult :=
  runTop (instanceTest a.toNat b.toNat cccc.toNat) s

/-- `array-length vA, vB` (R471): the length of an array. -/
def execArrayLength (a b : BitVec 4) (s : State) : StepResult := runTop (lengthOf a.toNat b.toNat) s

/-- `new-instance vAA, pool@BBBB` (R472): a zeroed instance. -/
def execNewInstance (aa : BitVec 8) (bbbb : BitVec 16) (s : State) : StepResult :=
  runTop (allocObject aa.toNat bbbb.toNat) s

/-- `new-array vA, vB, pool@CCCC` (R473): a zeroed array. -/
def execNewArray (a b : BitVec 4) (cccc : BitVec 16) (s : State) : StepResult :=
  runTop (allocArrayOf a.toNat b.toNat cccc.toNat) s

/-- `filled-new-array (A words of vC, vD, vE, vF, vG), pool@BBBB` (R480): an array of register values, to RV. -/
def execFilledNewArray (a : BitVec 4) (bbbb : BitVec 16) (c d e f g : BitVec 4) (s : State) : StepResult :=
  runTop (filledPacked a bbbb.toNat c d e f g) s

/-- `filled-new-array/range (AA words from vCCCC), pool@BBBB` (R481): an array of register values, to RV. -/
def execFilledNewArrayRange (aa : BitVec 8) (bbbb cccc : BitVec 16) (s : State) : StepResult :=
  runTop (filledArray bbbb.toNat (rangeRegs aa cccc)) s

/-- `fill-array-data vAA, +BBBBBBBB` (R477): a literal table into an array. -/
def execFillArrayData (aa : BitVec 8) (off : BitVec 32) (s : State) : StepResult :=
  runTop (fillFromTable aa.toNat off) s

/-- `aget vAA, vBB, vCC` (R483): an array element, int or float. -/
def execAget (aa bb cc : BitVec 8) (s : State) : StepResult := runTop (getElement32 .I aa.toNat bb.toNat cc.toNat) s

/-- `aget-wide vAA, vBB, vCC` (R484): an array element, long or double. -/
def execAgetWide (aa bb cc : BitVec 8) (s : State) : StepResult := runTop (getElement64 aa.toNat bb.toNat cc.toNat) s

/-- `aget-object vAA, vBB, vCC` (R485): an array element, reference. -/
def execAgetObject (aa bb cc : BitVec 8) (s : State) : StepResult :=
  runTop (getElementRef aa.toNat bb.toNat cc.toNat) s

/-- `aget-boolean vAA, vBB, vCC` (R486): an array element, boolean. -/
def execAgetBoolean (aa bb cc : BitVec 8) (s : State) : StepResult :=
  runTop (getElement32 .Z aa.toNat bb.toNat cc.toNat) s

/-- `aget-byte vAA, vBB, vCC` (R487): an array element, byte. -/
def execAgetByte (aa bb cc : BitVec 8) (s : State) : StepResult :=
  runTop (getElement32 .B aa.toNat bb.toNat cc.toNat) s

/-- `aget-char vAA, vBB, vCC` (R488): an array element, char. -/
def execAgetChar (aa bb cc : BitVec 8) (s : State) : StepResult :=
  runTop (getElement32 .C aa.toNat bb.toNat cc.toNat) s

/-- `aget-short vAA, vBB, vCC` (R489): an array element, short. -/
def execAgetShort (aa bb cc : BitVec 8) (s : State) : StepResult :=
  runTop (getElement32 .S aa.toNat bb.toNat cc.toNat) s

/-- `aput vAA, vBB, vCC` (R491): an array element stored, int or float. -/
def execAput (aa bb cc : BitVec 8) (s : State) : StepResult := runTop (putElement32 .I aa.toNat bb.toNat cc.toNat) s

/-- `aput-wide vAA, vBB, vCC` (R492): an array element stored, long or double. -/
def execAputWide (aa bb cc : BitVec 8) (s : State) : StepResult := runTop (putElement64 aa.toNat bb.toNat cc.toNat) s

/-- `aput-object vAA, vBB, vCC` (R493): an array element stored, reference. -/
def execAputObject (aa bb cc : BitVec 8) (s : State) : StepResult :=
  runTop (putElementRef aa.toNat bb.toNat cc.toNat) s

/-- `aput-boolean vAA, vBB, vCC` (R494): an array element stored, boolean. -/
def execAputBoolean (aa bb cc : BitVec 8) (s : State) : StepResult :=
  runTop (putElement32 .Z aa.toNat bb.toNat cc.toNat) s

/-- `aput-byte vAA, vBB, vCC` (R495): an array element stored, byte. -/
def execAputByte (aa bb cc : BitVec 8) (s : State) : StepResult :=
  runTop (putElement32 .B aa.toNat bb.toNat cc.toNat) s

/-- `aput-char vAA, vBB, vCC` (R496): an array element stored, char. -/
def execAputChar (aa bb cc : BitVec 8) (s : State) : StepResult :=
  runTop (putElement32 .C aa.toNat bb.toNat cc.toNat) s

/-- `aput-short vAA, vBB, vCC` (R497): an array element stored, short. -/
def execAputShort (aa bb cc : BitVec 8) (s : State) : StepResult :=
  runTop (putElement32 .S aa.toNat bb.toNat cc.toNat) s

/-- `iget vA, vB, pool@CCCC` (R499): an instance field, int or float expected; the field's own code chooses the view. -/
def execIget (a b : BitVec 4) (cccc : BitVec 16) (s : State) : StepResult :=
  runTop (getInstanceField a.toNat b.toNat cccc.toNat) s

/-- `iget-wide vA, vB, pool@CCCC` (R500): an instance field, long or double expected; the field's own code chooses the view. -/
def execIgetWide (a b : BitVec 4) (cccc : BitVec 16) (s : State) : StepResult :=
  runTop (getInstanceField a.toNat b.toNat cccc.toNat) s

/-- `iget-object vA, vB, pool@CCCC` (R501): an instance field, reference expected; the field's own code chooses the view. -/
def execIgetObject (a b : BitVec 4) (cccc : BitVec 16) (s : State) : StepResult :=
  runTop (getInstanceField a.toNat b.toNat cccc.toNat) s

/-- `iget-boolean vA, vB, pool@CCCC` (R502): an instance field, boolean expected; the field's own code chooses the view. -/
def execIgetBoolean (a b : BitVec 4) (cccc : BitVec 16) (s : State) : StepResult :=
  runTop (getInstanceField a.toNat b.toNat cccc.toNat) s

/-- `iget-byte vA, vB, pool@CCCC` (R503): an instance field, byte expected; the field's own code chooses the view. -/
def execIgetByte (a b : BitVec 4) (cccc : BitVec 16) (s : State) : StepResult :=
  runTop (getInstanceField a.toNat b.toNat cccc.toNat) s

/-- `iget-char vA, vB, pool@CCCC` (R504): an instance field, char expected; the field's own code chooses the view. -/
def execIgetChar (a b : BitVec 4) (cccc : BitVec 16) (s : State) : StepResult :=
  runTop (getInstanceField a.toNat b.toNat cccc.toNat) s

/-- `iget-short vA, vB, pool@CCCC` (R505): an instance field, short expected; the field's own code chooses the view. -/
def execIgetShort (a b : BitVec 4) (cccc : BitVec 16) (s : State) : StepResult :=
  runTop (getInstanceField a.toNat b.toNat cccc.toNat) s

/-- `iput vA, vB, pool@CCCC` (R507): an instance field stored, int or float. -/
def execIput (a b : BitVec 4) (cccc : BitVec 16) (s : State) : StepResult :=
  runTop (putInstanceField (.w32 .I) a.toNat b.toNat cccc.toNat) s

/-- `iput-wide vA, vB, pool@CCCC` (R508): an instance field stored, long or double. -/
def execIputWide (a b : BitVec 4) (cccc : BitVec 16) (s : State) : StepResult :=
  runTop (putInstanceField (.w64 .J) a.toNat b.toNat cccc.toNat) s

/-- `iput-object vA, vB, pool@CCCC` (R509): an instance field stored, reference. -/
def execIputObject (a b : BitVec 4) (cccc : BitVec 16) (s : State) : StepResult :=
  runTop (putInstanceField .L a.toNat b.toNat cccc.toNat) s

/-- `iput-boolean vA, vB, pool@CCCC` (R510): an instance field stored, boolean. -/
def execIputBoolean (a b : BitVec 4) (cccc : BitVec 16) (s : State) : StepResult :=
  runTop (putInstanceField (.w32 .Z) a.toNat b.toNat cccc.toNat) s

/-- `iput-byte vA, vB, pool@CCCC` (R511): an instance field stored, byte. -/
def execIputByte (a b : BitVec 4) (cccc : BitVec 16) (s : State) : StepResult :=
  runTop (putInstanceField (.w32 .B) a.toNat b.toNat cccc.toNat) s

/-- `iput-char vA, vB, pool@CCCC` (R512): an instance field stored, char. -/
def execIputChar (a b : BitVec 4) (cccc : BitVec 16) (s : State) : StepResult :=
  runTop (putInstanceField (.w32 .C) a.toNat b.toNat cccc.toNat) s

/-- `iput-short vA, vB, pool@CCCC` (R513): an instance field stored, short. -/
def execIputShort (a b : BitVec 4) (cccc : BitVec 16) (s : State) : StepResult :=
  runTop (putInstanceField (.w32 .S) a.toNat b.toNat cccc.toNat) s

/-- `sget vAA, pool@BBBB` (R515): a static field, int or float expected; the field's own code chooses the view. -/
def execSget (aa : BitVec 8) (bbbb : BitVec 16) (s : State) : StepResult :=
  runTop (getStaticField aa.toNat bbbb.toNat) s

/-- `sget-wide vAA, pool@BBBB` (R516): a static field, long or double expected; the field's own code chooses the view. -/
def execSgetWide (aa : BitVec 8) (bbbb : BitVec 16) (s : State) : StepResult :=
  runTop (getStaticField aa.toNat bbbb.toNat) s

/-- `sget-object vAA, pool@BBBB` (R517): a static field, reference expected; the field's own code chooses the view. -/
def execSgetObject (aa : BitVec 8) (bbbb : BitVec 16) (s : State) : StepResult :=
  runTop (getStaticField aa.toNat bbbb.toNat) s

/-- `sget-boolean vAA, pool@BBBB` (R518): a static field, boolean expected; the field's own code chooses the view. -/
def execSgetBoolean (aa : BitVec 8) (bbbb : BitVec 16) (s : State) : StepResult :=
  runTop (getStaticField aa.toNat bbbb.toNat) s

/-- `sget-byte vAA, pool@BBBB` (R519): a static field, byte expected; the field's own code chooses the view. -/
def execSgetByte (aa : BitVec 8) (bbbb : BitVec 16) (s : State) : StepResult :=
  runTop (getStaticField aa.toNat bbbb.toNat) s

/-- `sget-char vAA, pool@BBBB` (R520): a static field, char expected; the field's own code chooses the view. -/
def execSgetChar (aa : BitVec 8) (bbbb : BitVec 16) (s : State) : StepResult :=
  runTop (getStaticField aa.toNat bbbb.toNat) s

/-- `sget-short vAA, pool@BBBB` (R521): a static field, short expected; the field's own code chooses the view. -/
def execSgetShort (aa : BitVec 8) (bbbb : BitVec 16) (s : State) : StepResult :=
  runTop (getStaticField aa.toNat bbbb.toNat) s

/-- `sput vAA, pool@BBBB` (R523): a static field stored, int or float. -/
def execSput (aa : BitVec 8) (bbbb : BitVec 16) (s : State) : StepResult :=
  runTop (putStaticField (.w32 .I) aa.toNat bbbb.toNat) s

/-- `sput-wide vAA, pool@BBBB` (R524): a static field stored, long or double. -/
def execSputWide (aa : BitVec 8) (bbbb : BitVec 16) (s : State) : StepResult :=
  runTop (putStaticField (.w64 .J) aa.toNat bbbb.toNat) s

/-- `sput-object vAA, pool@BBBB` (R525): a static field stored, reference. -/
def execSputObject (aa : BitVec 8) (bbbb : BitVec 16) (s : State) : StepResult :=
  runTop (putStaticField .L aa.toNat bbbb.toNat) s

/-- `sput-boolean vAA, pool@BBBB` (R526): a static field stored, boolean. -/
def execSputBoolean (aa : BitVec 8) (bbbb : BitVec 16) (s : State) : StepResult :=
  runTop (putStaticField (.w32 .Z) aa.toNat bbbb.toNat) s

/-- `sput-byte vAA, pool@BBBB` (R527): a static field stored, byte. -/
def execSputByte (aa : BitVec 8) (bbbb : BitVec 16) (s : State) : StepResult :=
  runTop (putStaticField (.w32 .B) aa.toNat bbbb.toNat) s

/-- `sput-char vAA, pool@BBBB` (R528): a static field stored, char. -/
def execSputChar (aa : BitVec 8) (bbbb : BitVec 16) (s : State) : StepResult :=
  runTop (putStaticField (.w32 .C) aa.toNat bbbb.toNat) s

/-- `sput-short vAA, pool@BBBB` (R529): a static field stored, short. -/
def execSputShort (aa : BitVec 8) (bbbb : BitVec 16) (s : State) : StepResult :=
  runTop (putStaticField (.w32 .S) aa.toNat bbbb.toNat) s

end Sys2Proof.Machine
end

