-- ==== Sys2Proof/Machine/Invoke.lean ====
section
/-! DEFINITION. Method invocation (spec/46_invoke.md): one argument decode, two back ends (R561). -/

namespace Sys2Proof.Machine

/-! ### The invoke sequence (R551) -/

/-- Words of the receiver: none for static (R551 step 4). -/
def receiverWords (kind : InvokeKind) : Nat :=
  match kind with
  | .static => 0
  | _ => 1

/-- The receiver, read from the first argument register and not NULL, for a kind other than static (R553). -/
def readReceiver (kind : InvokeKind) (regs : List Nat) : Handler (Option Handle) :=
  match kind with
  | .static => pure none
  | _ => do
    let recv ← readRef (regs.headD 0)
    requireNonNull recv .receiver
    return some recv

/-- The method that is run (R559). -/
def chooseTarget (kind : InvokeKind) (m : Handle) (recv : Option Handle) : Handler Handle :=
  match kind with
  | .direct => pure m
  | .static => pure m
  | _ => do
    let r ← ask (selectTarget kind m (recv.getD null))
    orResolution r

/-- The receiver as an argument (R560). -/
def receiverArg (recv : Option Handle) : List TypedValue :=
  match recv with
  | none => []
  | some h => [.ref h]

/-- The nested activation (R562). `need` is the number of argument words. -/
def callNested (pc0 need : Nat) (call : StagedCall) (sh : Shorty) : Handler Unit := do
  let info ← ask (methodInfo call.target)
  let c ← get
  if need ≠ info.nins then faultWith (.paramMismatch pc0)
  else if c.params.maxDepth ≤ c.depth then faultWith (.depth pc0)
  else do
    let b ← checked (Activation.start (info.toMethod sh) call.args)
    setTop { c.top with st := .calling, inv := .callInterpreted call }
    pushCallee b

/-- The host call (R563). -/
def callHost (call : StagedCall) (recv : Option Handle) (sh : Shorty) : Handler Unit := do
  ask (issue (.call call.kind call.target recv call.args sh))
  let a ← getTop
  setTop { a with st := .calling, inv := .callHost call }
  awaitCall call

/-- `invoke(kind, form, idx, regs, count)` (R551), `count` the length of `regs`. -/
def invoke (kind : InvokeKind) (form : ArgForm) (idx : Nat) (regs : List Nat) : Handler Unit := do
  let a ← getTop
  setTop { a with inv := .decodingArgs kind form }
  let r ← ask (resolveMethod idx (decide (kind = .static)))
  let m ← orResolution r
  let sh ← ask (shortyOf m)
  let need := receiverWords kind + paramWords sh.params
  if need ≠ regs.length then faultWith (.paramMismatch a.pc)
  else do
    let recv ← readReceiver kind regs
    let target ← chooseTarget kind m recv
    let params ← checked (a.params sh.params (regs.drop (receiverWords kind)))
    let call : StagedCall :=
      { kind := kind, form := form, target := target, args := receiverArg recv ++ params, ret := sh.ret }
    let nested ← ask (isInterpretable target)
    if nested then callNested a.pc need call sh else callHost call recv sh

/-- The packed form: A > 5 is F9 before any other step (R554). -/
def invokePacked (kind : InvokeKind) (count : BitVec 4) (idx : Nat) (c d e f g : BitVec 4) : Handler Unit := do
  checkCount count
  invoke kind .packed idx (packedRegs count c d e f g)

/-! ### The instructions -/

/-- `invoke-virtual (A words of vC, vD, vE, vF, vG), pool@BBBB` (R573): a call, kind virtual, packed arguments. -/
def execInvokeVirtual (a : BitVec 4) (bbbb : BitVec 16) (c d e f g : BitVec 4) (s : State) : StepResult :=
  runTop (invokePacked .virtual a bbbb.toNat c d e f g) s

/-- `invoke-super (A words of vC, vD, vE, vF, vG), pool@BBBB` (R574): a call, kind super, packed arguments. -/
def execInvokeSuper (a : BitVec 4) (bbbb : BitVec 16) (c d e f g : BitVec 4) (s : State) : StepResult :=
  runTop (invokePacked .super a bbbb.toNat c d e f g) s

/-- `invoke-direct (A words of vC, vD, vE, vF, vG), pool@BBBB` (R575): a call, kind direct, packed arguments. -/
def execInvokeDirect (a : BitVec 4) (bbbb : BitVec 16) (c d e f g : BitVec 4) (s : State) : StepResult :=
  runTop (invokePacked .direct a bbbb.toNat c d e f g) s

/-- `invoke-static (A words of vC, vD, vE, vF, vG), pool@BBBB` (R576): a call, kind static, packed arguments. -/
def execInvokeStatic (a : BitVec 4) (bbbb : BitVec 16) (c d e f g : BitVec 4) (s : State) : StepResult :=
  runTop (invokePacked .static a bbbb.toNat c d e f g) s

/-- `invoke-interface (A words of vC, vD, vE, vF, vG), pool@BBBB` (R577): a call, kind interface, packed arguments. -/
def execInvokeInterface (a : BitVec 4) (bbbb : BitVec 16) (c d e f g : BitVec 4) (s : State) : StepResult :=
  runTop (invokePacked .interface a bbbb.toNat c d e f g) s

/-- `invoke-virtual/range (AA words from vCCCC), pool@BBBB` (R578): a call, kind virtual, arguments in a register range. -/
def execInvokeVirtualRange (aa : BitVec 8) (bbbb cccc : BitVec 16) (s : State) : StepResult :=
  runTop (invoke .virtual .range bbbb.toNat (rangeRegs aa cccc)) s

/-- `invoke-super/range (AA words from vCCCC), pool@BBBB` (R579): a call, kind super, arguments in a register range. -/
def execInvokeSuperRange (aa : BitVec 8) (bbbb cccc : BitVec 16) (s : State) : StepResult :=
  runTop (invoke .super .range bbbb.toNat (rangeRegs aa cccc)) s

/-- `invoke-direct/range (AA words from vCCCC), pool@BBBB` (R580): a call, kind direct, arguments in a register range. -/
def execInvokeDirectRange (aa : BitVec 8) (bbbb cccc : BitVec 16) (s : State) : StepResult :=
  runTop (invoke .direct .range bbbb.toNat (rangeRegs aa cccc)) s

/-- `invoke-static/range (AA words from vCCCC), pool@BBBB` (R581): a call, kind static, arguments in a register range. -/
def execInvokeStaticRange (aa : BitVec 8) (bbbb cccc : BitVec 16) (s : State) : StepResult :=
  runTop (invoke .static .range bbbb.toNat (rangeRegs aa cccc)) s

/-- `invoke-interface/range (AA words from vCCCC), pool@BBBB` (R582): a call, kind interface, arguments in a register range. -/
def execInvokeInterfaceRange (aa : BitVec 8) (bbbb cccc : BitVec 16) (s : State) : StepResult :=
  runTop (invoke .interface .range bbbb.toNat (rangeRegs aa cccc)) s

end Sys2Proof.Machine
end

