-- ==== Sys2Proof/Machine/Unused.lean ====
section
/-! DEFINITION. The unassigned opcodes (spec/30_encoding.md R128, spec/40_dispatch.md R179): each takes the trap handler,
which records F1 and changes nothing else. -/

namespace Sys2Proof.Machine

/-- The trap handler: `fault F1(op, pc0)`. -/
def trap (op : BitVec 8) : Handler Unit := do
  let a ← getTop
  faultWith (.unknownOpcode op a.pc)

/-! ### The instructions -/

/-- Opcode 0x3e (R128): the unknown-opcode trap. -/
def execUnused3e (s : State) : StepResult := runTop (trap 0x3e#8) s

/-- Opcode 0x3f (R128): the unknown-opcode trap. -/
def execUnused3f (s : State) : StepResult := runTop (trap 0x3f#8) s

/-- Opcode 0x40 (R128): the unknown-opcode trap. -/
def execUnused40 (s : State) : StepResult := runTop (trap 0x40#8) s

/-- Opcode 0x41 (R128): the unknown-opcode trap. -/
def execUnused41 (s : State) : StepResult := runTop (trap 0x41#8) s

/-- Opcode 0x42 (R128): the unknown-opcode trap. -/
def execUnused42 (s : State) : StepResult := runTop (trap 0x42#8) s

/-- Opcode 0x43 (R128): the unknown-opcode trap. -/
def execUnused43 (s : State) : StepResult := runTop (trap 0x43#8) s

/-- Opcode 0x73 (R128): the unknown-opcode trap. -/
def execUnused73 (s : State) : StepResult := runTop (trap 0x73#8) s

/-- Opcode 0x79 (R128): the unknown-opcode trap. -/
def execUnused79 (s : State) : StepResult := runTop (trap 0x79#8) s

/-- Opcode 0x7a (R128): the unknown-opcode trap. -/
def execUnused7a (s : State) : StepResult := runTop (trap 0x7a#8) s

/-- Opcode 0xe3 (R128): the unknown-opcode trap. -/
def execUnusedE3 (s : State) : StepResult := runTop (trap 0xe3#8) s

/-- Opcode 0xe4 (R128): the unknown-opcode trap. -/
def execUnusedE4 (s : State) : StepResult := runTop (trap 0xe4#8) s

/-- Opcode 0xe5 (R128): the unknown-opcode trap. -/
def execUnusedE5 (s : State) : StepResult := runTop (trap 0xe5#8) s

/-- Opcode 0xe6 (R128): the unknown-opcode trap. -/
def execUnusedE6 (s : State) : StepResult := runTop (trap 0xe6#8) s

/-- Opcode 0xe7 (R128): the unknown-opcode trap. -/
def execUnusedE7 (s : State) : StepResult := runTop (trap 0xe7#8) s

/-- Opcode 0xe8 (R128): the unknown-opcode trap. -/
def execUnusedE8 (s : State) : StepResult := runTop (trap 0xe8#8) s

/-- Opcode 0xe9 (R128): the unknown-opcode trap. -/
def execUnusedE9 (s : State) : StepResult := runTop (trap 0xe9#8) s

/-- Opcode 0xea (R128): the unknown-opcode trap. -/
def execUnusedEa (s : State) : StepResult := runTop (trap 0xea#8) s

/-- Opcode 0xeb (R128): the unknown-opcode trap. -/
def execUnusedEb (s : State) : StepResult := runTop (trap 0xeb#8) s

/-- Opcode 0xec (R128): the unknown-opcode trap. -/
def execUnusedEc (s : State) : StepResult := runTop (trap 0xec#8) s

/-- Opcode 0xed (R128): the unknown-opcode trap. -/
def execUnusedEd (s : State) : StepResult := runTop (trap 0xed#8) s

/-- Opcode 0xee (R128): the unknown-opcode trap. -/
def execUnusedEe (s : State) : StepResult := runTop (trap 0xee#8) s

/-- Opcode 0xef (R128): the unknown-opcode trap. -/
def execUnusedEf (s : State) : StepResult := runTop (trap 0xef#8) s

/-- Opcode 0xf0 (R128): the unknown-opcode trap. -/
def execUnusedF0 (s : State) : StepResult := runTop (trap 0xf0#8) s

/-- Opcode 0xf1 (R128): the unknown-opcode trap. -/
def execUnusedF1 (s : State) : StepResult := runTop (trap 0xf1#8) s

/-- Opcode 0xf2 (R128): the unknown-opcode trap. -/
def execUnusedF2 (s : State) : StepResult := runTop (trap 0xf2#8) s

/-- Opcode 0xf3 (R128): the unknown-opcode trap. -/
def execUnusedF3 (s : State) : StepResult := runTop (trap 0xf3#8) s

/-- Opcode 0xf4 (R128): the unknown-opcode trap. -/
def execUnusedF4 (s : State) : StepResult := runTop (trap 0xf4#8) s

/-- Opcode 0xf5 (R128): the unknown-opcode trap. -/
def execUnusedF5 (s : State) : StepResult := runTop (trap 0xf5#8) s

/-- Opcode 0xf6 (R128): the unknown-opcode trap. -/
def execUnusedF6 (s : State) : StepResult := runTop (trap 0xf6#8) s

/-- Opcode 0xf7 (R128): the unknown-opcode trap. -/
def execUnusedF7 (s : State) : StepResult := runTop (trap 0xf7#8) s

/-- Opcode 0xf8 (R128): the unknown-opcode trap. -/
def execUnusedF8 (s : State) : StepResult := runTop (trap 0xf8#8) s

/-- Opcode 0xf9 (R128): the unknown-opcode trap. -/
def execUnusedF9 (s : State) : StepResult := runTop (trap 0xf9#8) s

/-- Opcode 0xfa (R128): the unknown-opcode trap. -/
def execUnusedFa (s : State) : StepResult := runTop (trap 0xfa#8) s

/-- Opcode 0xfb (R128): the unknown-opcode trap. -/
def execUnusedFb (s : State) : StepResult := runTop (trap 0xfb#8) s

/-- Opcode 0xfc (R128): the unknown-opcode trap. -/
def execUnusedFc (s : State) : StepResult := runTop (trap 0xfc#8) s

/-- Opcode 0xfd (R128): the unknown-opcode trap. -/
def execUnusedFd (s : State) : StepResult := runTop (trap 0xfd#8) s

/-- Opcode 0xfe (R128): the unknown-opcode trap. -/
def execUnusedFe (s : State) : StepResult := runTop (trap 0xfe#8) s

/-- Opcode 0xff (R128): the unknown-opcode trap. -/
def execUnusedFf (s : State) : StepResult := runTop (trap 0xff#8) s

end Sys2Proof.Machine
end

