-- ==== Sys2Proof/Machine/Dispatch.lean ====
section
/-! DEFINITION. The dispatch of an instruction to its handler (spec/40_dispatch.md R172, R174): one arm per instruction,
in the order of the opcode table. -/

namespace Sys2Proof.Machine

/-- The meaning of an instruction on a state: one engine step of the top activation in RUN status (R174). -/
def exec (i : Instr) (s : State) : Host.Outcome State Fault Refusal :=
  match i with
  | .nop => Sys2Proof.Machine.execNop s
  | .move a b => Sys2Proof.Machine.execMove a b s
  | .moveFrom16 aa bbbb => Sys2Proof.Machine.execMoveFrom16 aa bbbb s
  | .move16 aaaa bbbb => Sys2Proof.Machine.execMove16 aaaa bbbb s
  | .moveWide a b => Sys2Proof.Machine.execMoveWide a b s
  | .moveWideFrom16 aa bbbb => Sys2Proof.Machine.execMoveWideFrom16 aa bbbb s
  | .moveWide16 aaaa bbbb => Sys2Proof.Machine.execMoveWide16 aaaa bbbb s
  | .moveObject a b => Sys2Proof.Machine.execMoveObject a b s
  | .moveObjectFrom16 aa bbbb => Sys2Proof.Machine.execMoveObjectFrom16 aa bbbb s
  | .moveObject16 aaaa bbbb => Sys2Proof.Machine.execMoveObject16 aaaa bbbb s
  | .moveResult aa => Sys2Proof.Machine.execMoveResult aa s
  | .moveResultWide aa => Sys2Proof.Machine.execMoveResultWide aa s
  | .moveResultObject aa => Sys2Proof.Machine.execMoveResultObject aa s
  | .moveException aa => Sys2Proof.Machine.execMoveException aa s
  | .returnVoid => Sys2Proof.Machine.execReturnVoid s
  | .returnVal aa => Sys2Proof.Machine.execReturnVal aa s
  | .returnWide aa => Sys2Proof.Machine.execReturnWide aa s
  | .returnObject aa => Sys2Proof.Machine.execReturnObject aa s
  | .const4 a b => Sys2Proof.Machine.execConst4 a b s
  | .const16 aa bbbb => Sys2Proof.Machine.execConst16 aa bbbb s
  | .const32 aa lit => Sys2Proof.Machine.execConst32 aa lit s
  | .constHigh16 aa bbbb => Sys2Proof.Machine.execConstHigh16 aa bbbb s
  | .constWide16 aa bbbb => Sys2Proof.Machine.execConstWide16 aa bbbb s
  | .constWide32 aa lit => Sys2Proof.Machine.execConstWide32 aa lit s
  | .constWide aa lit => Sys2Proof.Machine.execConstWide aa lit s
  | .constWideHigh16 aa bbbb => Sys2Proof.Machine.execConstWideHigh16 aa bbbb s
  | .constString aa bbbb => Sys2Proof.Machine.execConstString aa bbbb s
  | .constStringJumbo aa idx => Sys2Proof.Machine.execConstStringJumbo aa idx s
  | .constClass aa bbbb => Sys2Proof.Machine.execConstClass aa bbbb s
  | .monitorEnter aa => Sys2Proof.Machine.execMonitorEnter aa s
  | .monitorExit aa => Sys2Proof.Machine.execMonitorExit aa s
  | .checkCast aa bbbb => Sys2Proof.Machine.execCheckCast aa bbbb s
  | .instanceOf a b cccc => Sys2Proof.Machine.execInstanceOf a b cccc s
  | .arrayLength a b => Sys2Proof.Machine.execArrayLength a b s
  | .newInstance aa bbbb => Sys2Proof.Machine.execNewInstance aa bbbb s
  | .newArray a b cccc => Sys2Proof.Machine.execNewArray a b cccc s
  | .filledNewArray a bbbb c d e f g => Sys2Proof.Machine.execFilledNewArray a bbbb c d e f g s
  | .filledNewArrayRange aa bbbb cccc => Sys2Proof.Machine.execFilledNewArrayRange aa bbbb cccc s
  | .fillArrayData aa off => Sys2Proof.Machine.execFillArrayData aa off s
  | .throwObj aa => Sys2Proof.Machine.execThrowObj aa s
  | .goto aa => Sys2Proof.Machine.execGoto aa s
  | .goto16 aaaa => Sys2Proof.Machine.execGoto16 aaaa s
  | .goto32 off => Sys2Proof.Machine.execGoto32 off s
  | .packedSwitch aa off => Sys2Proof.Machine.execPackedSwitch aa off s
  | .sparseSwitch aa off => Sys2Proof.Machine.execSparseSwitch aa off s
  | .cmplFloat aa bb cc => Sys2Proof.Machine.execCmplFloat aa bb cc s
  | .cmpgFloat aa bb cc => Sys2Proof.Machine.execCmpgFloat aa bb cc s
  | .cmplDouble aa bb cc => Sys2Proof.Machine.execCmplDouble aa bb cc s
  | .cmpgDouble aa bb cc => Sys2Proof.Machine.execCmpgDouble aa bb cc s
  | .cmpLong aa bb cc => Sys2Proof.Machine.execCmpLong aa bb cc s
  | .ifEq a b cccc => Sys2Proof.Machine.execIfEq a b cccc s
  | .ifNe a b cccc => Sys2Proof.Machine.execIfNe a b cccc s
  | .ifLt a b cccc => Sys2Proof.Machine.execIfLt a b cccc s
  | .ifGe a b cccc => Sys2Proof.Machine.execIfGe a b cccc s
  | .ifGt a b cccc => Sys2Proof.Machine.execIfGt a b cccc s
  | .ifLe a b cccc => Sys2Proof.Machine.execIfLe a b cccc s
  | .ifEqz aa bbbb => Sys2Proof.Machine.execIfEqz aa bbbb s
  | .ifNez aa bbbb => Sys2Proof.Machine.execIfNez aa bbbb s
  | .ifLtz aa bbbb => Sys2Proof.Machine.execIfLtz aa bbbb s
  | .ifGez aa bbbb => Sys2Proof.Machine.execIfGez aa bbbb s
  | .ifGtz aa bbbb => Sys2Proof.Machine.execIfGtz aa bbbb s
  | .ifLez aa bbbb => Sys2Proof.Machine.execIfLez aa bbbb s
  | .unused3e => Sys2Proof.Machine.execUnused3e s
  | .unused3f => Sys2Proof.Machine.execUnused3f s
  | .unused40 => Sys2Proof.Machine.execUnused40 s
  | .unused41 => Sys2Proof.Machine.execUnused41 s
  | .unused42 => Sys2Proof.Machine.execUnused42 s
  | .unused43 => Sys2Proof.Machine.execUnused43 s
  | .aget aa bb cc => Sys2Proof.Machine.execAget aa bb cc s
  | .agetWide aa bb cc => Sys2Proof.Machine.execAgetWide aa bb cc s
  | .agetObject aa bb cc => Sys2Proof.Machine.execAgetObject aa bb cc s
  | .agetBoolean aa bb cc => Sys2Proof.Machine.execAgetBoolean aa bb cc s
  | .agetByte aa bb cc => Sys2Proof.Machine.execAgetByte aa bb cc s
  | .agetChar aa bb cc => Sys2Proof.Machine.execAgetChar aa bb cc s
  | .agetShort aa bb cc => Sys2Proof.Machine.execAgetShort aa bb cc s
  | .aput aa bb cc => Sys2Proof.Machine.execAput aa bb cc s
  | .aputWide aa bb cc => Sys2Proof.Machine.execAputWide aa bb cc s
  | .aputObject aa bb cc => Sys2Proof.Machine.execAputObject aa bb cc s
  | .aputBoolean aa bb cc => Sys2Proof.Machine.execAputBoolean aa bb cc s
  | .aputByte aa bb cc => Sys2Proof.Machine.execAputByte aa bb cc s
  | .aputChar aa bb cc => Sys2Proof.Machine.execAputChar aa bb cc s
  | .aputShort aa bb cc => Sys2Proof.Machine.execAputShort aa bb cc s
  | .iget a b cccc => Sys2Proof.Machine.execIget a b cccc s
  | .igetWide a b cccc => Sys2Proof.Machine.execIgetWide a b cccc s
  | .igetObject a b cccc => Sys2Proof.Machine.execIgetObject a b cccc s
  | .igetBoolean a b cccc => Sys2Proof.Machine.execIgetBoolean a b cccc s
  | .igetByte a b cccc => Sys2Proof.Machine.execIgetByte a b cccc s
  | .igetChar a b cccc => Sys2Proof.Machine.execIgetChar a b cccc s
  | .igetShort a b cccc => Sys2Proof.Machine.execIgetShort a b cccc s
  | .iput a b cccc => Sys2Proof.Machine.execIput a b cccc s
  | .iputWide a b cccc => Sys2Proof.Machine.execIputWide a b cccc s
  | .iputObject a b cccc => Sys2Proof.Machine.execIputObject a b cccc s
  | .iputBoolean a b cccc => Sys2Proof.Machine.execIputBoolean a b cccc s
  | .iputByte a b cccc => Sys2Proof.Machine.execIputByte a b cccc s
  | .iputChar a b cccc => Sys2Proof.Machine.execIputChar a b cccc s
  | .iputShort a b cccc => Sys2Proof.Machine.execIputShort a b cccc s
  | .sget aa bbbb => Sys2Proof.Machine.execSget aa bbbb s
  | .sgetWide aa bbbb => Sys2Proof.Machine.execSgetWide aa bbbb s
  | .sgetObject aa bbbb => Sys2Proof.Machine.execSgetObject aa bbbb s
  | .sgetBoolean aa bbbb => Sys2Proof.Machine.execSgetBoolean aa bbbb s
  | .sgetByte aa bbbb => Sys2Proof.Machine.execSgetByte aa bbbb s
  | .sgetChar aa bbbb => Sys2Proof.Machine.execSgetChar aa bbbb s
  | .sgetShort aa bbbb => Sys2Proof.Machine.execSgetShort aa bbbb s
  | .sput aa bbbb => Sys2Proof.Machine.execSput aa bbbb s
  | .sputWide aa bbbb => Sys2Proof.Machine.execSputWide aa bbbb s
  | .sputObject aa bbbb => Sys2Proof.Machine.execSputObject aa bbbb s
  | .sputBoolean aa bbbb => Sys2Proof.Machine.execSputBoolean aa bbbb s
  | .sputByte aa bbbb => Sys2Proof.Machine.execSputByte aa bbbb s
  | .sputChar aa bbbb => Sys2Proof.Machine.execSputChar aa bbbb s
  | .sputShort aa bbbb => Sys2Proof.Machine.execSputShort aa bbbb s
  | .invokeVirtual a bbbb c d e f g => Sys2Proof.Machine.execInvokeVirtual a bbbb c d e f g s
  | .invokeSuper a bbbb c d e f g => Sys2Proof.Machine.execInvokeSuper a bbbb c d e f g s
  | .invokeDirect a bbbb c d e f g => Sys2Proof.Machine.execInvokeDirect a bbbb c d e f g s
  | .invokeStatic a bbbb c d e f g => Sys2Proof.Machine.execInvokeStatic a bbbb c d e f g s
  | .invokeInterface a bbbb c d e f g => Sys2Proof.Machine.execInvokeInterface a bbbb c d e f g s
  | .unused73 => Sys2Proof.Machine.execUnused73 s
  | .invokeVirtualRange aa bbbb cccc => Sys2Proof.Machine.execInvokeVirtualRange aa bbbb cccc s
  | .invokeSuperRange aa bbbb cccc => Sys2Proof.Machine.execInvokeSuperRange aa bbbb cccc s
  | .invokeDirectRange aa bbbb cccc => Sys2Proof.Machine.execInvokeDirectRange aa bbbb cccc s
  | .invokeStaticRange aa bbbb cccc => Sys2Proof.Machine.execInvokeStaticRange aa bbbb cccc s
  | .invokeInterfaceRange aa bbbb cccc => Sys2Proof.Machine.execInvokeInterfaceRange aa bbbb cccc s
  | .unused79 => Sys2Proof.Machine.execUnused79 s
  | .unused7a => Sys2Proof.Machine.execUnused7a s
  | .negInt a b => Sys2Proof.Machine.execNegInt a b s
  | .notInt a b => Sys2Proof.Machine.execNotInt a b s
  | .negLong a b => Sys2Proof.Machine.execNegLong a b s
  | .notLong a b => Sys2Proof.Machine.execNotLong a b s
  | .negFloat a b => Sys2Proof.Machine.execNegFloat a b s
  | .negDouble a b => Sys2Proof.Machine.execNegDouble a b s
  | .intToLong a b => Sys2Proof.Machine.execIntToLong a b s
  | .intToFloat a b => Sys2Proof.Machine.execIntToFloat a b s
  | .intToDouble a b => Sys2Proof.Machine.execIntToDouble a b s
  | .longToInt a b => Sys2Proof.Machine.execLongToInt a b s
  | .longToFloat a b => Sys2Proof.Machine.execLongToFloat a b s
  | .longToDouble a b => Sys2Proof.Machine.execLongToDouble a b s
  | .floatToInt a b => Sys2Proof.Machine.execFloatToInt a b s
  | .floatToLong a b => Sys2Proof.Machine.execFloatToLong a b s
  | .floatToDouble a b => Sys2Proof.Machine.execFloatToDouble a b s
  | .doubleToInt a b => Sys2Proof.Machine.execDoubleToInt a b s
  | .doubleToLong a b => Sys2Proof.Machine.execDoubleToLong a b s
  | .doubleToFloat a b => Sys2Proof.Machine.execDoubleToFloat a b s
  | .intToByte a b => Sys2Proof.Machine.execIntToByte a b s
  | .intToChar a b => Sys2Proof.Machine.execIntToChar a b s
  | .intToShort a b => Sys2Proof.Machine.execIntToShort a b s
  | .addInt aa bb cc => Sys2Proof.Machine.execAddInt aa bb cc s
  | .subInt aa bb cc => Sys2Proof.Machine.execSubInt aa bb cc s
  | .mulInt aa bb cc => Sys2Proof.Machine.execMulInt aa bb cc s
  | .divInt aa bb cc => Sys2Proof.Machine.execDivInt aa bb cc s
  | .remInt aa bb cc => Sys2Proof.Machine.execRemInt aa bb cc s
  | .andInt aa bb cc => Sys2Proof.Machine.execAndInt aa bb cc s
  | .orInt aa bb cc => Sys2Proof.Machine.execOrInt aa bb cc s
  | .xorInt aa bb cc => Sys2Proof.Machine.execXorInt aa bb cc s
  | .shlInt aa bb cc => Sys2Proof.Machine.execShlInt aa bb cc s
  | .shrInt aa bb cc => Sys2Proof.Machine.execShrInt aa bb cc s
  | .ushrInt aa bb cc => Sys2Proof.Machine.execUshrInt aa bb cc s
  | .addLong aa bb cc => Sys2Proof.Machine.execAddLong aa bb cc s
  | .subLong aa bb cc => Sys2Proof.Machine.execSubLong aa bb cc s
  | .mulLong aa bb cc => Sys2Proof.Machine.execMulLong aa bb cc s
  | .divLong aa bb cc => Sys2Proof.Machine.execDivLong aa bb cc s
  | .remLong aa bb cc => Sys2Proof.Machine.execRemLong aa bb cc s
  | .andLong aa bb cc => Sys2Proof.Machine.execAndLong aa bb cc s
  | .orLong aa bb cc => Sys2Proof.Machine.execOrLong aa bb cc s
  | .xorLong aa bb cc => Sys2Proof.Machine.execXorLong aa bb cc s
  | .shlLong aa bb cc => Sys2Proof.Machine.execShlLong aa bb cc s
  | .shrLong aa bb cc => Sys2Proof.Machine.execShrLong aa bb cc s
  | .ushrLong aa bb cc => Sys2Proof.Machine.execUshrLong aa bb cc s
  | .addFloat aa bb cc => Sys2Proof.Machine.execAddFloat aa bb cc s
  | .subFloat aa bb cc => Sys2Proof.Machine.execSubFloat aa bb cc s
  | .mulFloat aa bb cc => Sys2Proof.Machine.execMulFloat aa bb cc s
  | .divFloat aa bb cc => Sys2Proof.Machine.execDivFloat aa bb cc s
  | .remFloat aa bb cc => Sys2Proof.Machine.execRemFloat aa bb cc s
  | .addDouble aa bb cc => Sys2Proof.Machine.execAddDouble aa bb cc s
  | .subDouble aa bb cc => Sys2Proof.Machine.execSubDouble aa bb cc s
  | .mulDouble aa bb cc => Sys2Proof.Machine.execMulDouble aa bb cc s
  | .divDouble aa bb cc => Sys2Proof.Machine.execDivDouble aa bb cc s
  | .remDouble aa bb cc => Sys2Proof.Machine.execRemDouble aa bb cc s
  | .addInt2addr a b => Sys2Proof.Machine.execAddInt2addr a b s
  | .subInt2addr a b => Sys2Proof.Machine.execSubInt2addr a b s
  | .mulInt2addr a b => Sys2Proof.Machine.execMulInt2addr a b s
  | .divInt2addr a b => Sys2Proof.Machine.execDivInt2addr a b s
  | .remInt2addr a b => Sys2Proof.Machine.execRemInt2addr a b s
  | .andInt2addr a b => Sys2Proof.Machine.execAndInt2addr a b s
  | .orInt2addr a b => Sys2Proof.Machine.execOrInt2addr a b s
  | .xorInt2addr a b => Sys2Proof.Machine.execXorInt2addr a b s
  | .shlInt2addr a b => Sys2Proof.Machine.execShlInt2addr a b s
  | .shrInt2addr a b => Sys2Proof.Machine.execShrInt2addr a b s
  | .ushrInt2addr a b => Sys2Proof.Machine.execUshrInt2addr a b s
  | .addLong2addr a b => Sys2Proof.Machine.execAddLong2addr a b s
  | .subLong2addr a b => Sys2Proof.Machine.execSubLong2addr a b s
  | .mulLong2addr a b => Sys2Proof.Machine.execMulLong2addr a b s
  | .divLong2addr a b => Sys2Proof.Machine.execDivLong2addr a b s
  | .remLong2addr a b => Sys2Proof.Machine.execRemLong2addr a b s
  | .andLong2addr a b => Sys2Proof.Machine.execAndLong2addr a b s
  | .orLong2addr a b => Sys2Proof.Machine.execOrLong2addr a b s
  | .xorLong2addr a b => Sys2Proof.Machine.execXorLong2addr a b s
  | .shlLong2addr a b => Sys2Proof.Machine.execShlLong2addr a b s
  | .shrLong2addr a b => Sys2Proof.Machine.execShrLong2addr a b s
  | .ushrLong2addr a b => Sys2Proof.Machine.execUshrLong2addr a b s
  | .addFloat2addr a b => Sys2Proof.Machine.execAddFloat2addr a b s
  | .subFloat2addr a b => Sys2Proof.Machine.execSubFloat2addr a b s
  | .mulFloat2addr a b => Sys2Proof.Machine.execMulFloat2addr a b s
  | .divFloat2addr a b => Sys2Proof.Machine.execDivFloat2addr a b s
  | .remFloat2addr a b => Sys2Proof.Machine.execRemFloat2addr a b s
  | .addDouble2addr a b => Sys2Proof.Machine.execAddDouble2addr a b s
  | .subDouble2addr a b => Sys2Proof.Machine.execSubDouble2addr a b s
  | .mulDouble2addr a b => Sys2Proof.Machine.execMulDouble2addr a b s
  | .divDouble2addr a b => Sys2Proof.Machine.execDivDouble2addr a b s
  | .remDouble2addr a b => Sys2Proof.Machine.execRemDouble2addr a b s
  | .addIntLit16 a b cccc => Sys2Proof.Machine.execAddIntLit16 a b cccc s
  | .rsubInt a b cccc => Sys2Proof.Machine.execRsubInt a b cccc s
  | .mulIntLit16 a b cccc => Sys2Proof.Machine.execMulIntLit16 a b cccc s
  | .divIntLit16 a b cccc => Sys2Proof.Machine.execDivIntLit16 a b cccc s
  | .remIntLit16 a b cccc => Sys2Proof.Machine.execRemIntLit16 a b cccc s
  | .andIntLit16 a b cccc => Sys2Proof.Machine.execAndIntLit16 a b cccc s
  | .orIntLit16 a b cccc => Sys2Proof.Machine.execOrIntLit16 a b cccc s
  | .xorIntLit16 a b cccc => Sys2Proof.Machine.execXorIntLit16 a b cccc s
  | .addIntLit8 aa bb cc => Sys2Proof.Machine.execAddIntLit8 aa bb cc s
  | .rsubIntLit8 aa bb cc => Sys2Proof.Machine.execRsubIntLit8 aa bb cc s
  | .mulIntLit8 aa bb cc => Sys2Proof.Machine.execMulIntLit8 aa bb cc s
  | .divIntLit8 aa bb cc => Sys2Proof.Machine.execDivIntLit8 aa bb cc s
  | .remIntLit8 aa bb cc => Sys2Proof.Machine.execRemIntLit8 aa bb cc s
  | .andIntLit8 aa bb cc => Sys2Proof.Machine.execAndIntLit8 aa bb cc s
  | .orIntLit8 aa bb cc => Sys2Proof.Machine.execOrIntLit8 aa bb cc s
  | .xorIntLit8 aa bb cc => Sys2Proof.Machine.execXorIntLit8 aa bb cc s
  | .shlIntLit8 aa bb cc => Sys2Proof.Machine.execShlIntLit8 aa bb cc s
  | .shrIntLit8 aa bb cc => Sys2Proof.Machine.execShrIntLit8 aa bb cc s
  | .ushrIntLit8 aa bb cc => Sys2Proof.Machine.execUshrIntLit8 aa bb cc s
  | .unusedE3 => Sys2Proof.Machine.execUnusedE3 s
  | .unusedE4 => Sys2Proof.Machine.execUnusedE4 s
  | .unusedE5 => Sys2Proof.Machine.execUnusedE5 s
  | .unusedE6 => Sys2Proof.Machine.execUnusedE6 s
  | .unusedE7 => Sys2Proof.Machine.execUnusedE7 s
  | .unusedE8 => Sys2Proof.Machine.execUnusedE8 s
  | .unusedE9 => Sys2Proof.Machine.execUnusedE9 s
  | .unusedEa => Sys2Proof.Machine.execUnusedEa s
  | .unusedEb => Sys2Proof.Machine.execUnusedEb s
  | .unusedEc => Sys2Proof.Machine.execUnusedEc s
  | .unusedEd => Sys2Proof.Machine.execUnusedEd s
  | .unusedEe => Sys2Proof.Machine.execUnusedEe s
  | .unusedEf => Sys2Proof.Machine.execUnusedEf s
  | .unusedF0 => Sys2Proof.Machine.execUnusedF0 s
  | .unusedF1 => Sys2Proof.Machine.execUnusedF1 s
  | .unusedF2 => Sys2Proof.Machine.execUnusedF2 s
  | .unusedF3 => Sys2Proof.Machine.execUnusedF3 s
  | .unusedF4 => Sys2Proof.Machine.execUnusedF4 s
  | .unusedF5 => Sys2Proof.Machine.execUnusedF5 s
  | .unusedF6 => Sys2Proof.Machine.execUnusedF6 s
  | .unusedF7 => Sys2Proof.Machine.execUnusedF7 s
  | .unusedF8 => Sys2Proof.Machine.execUnusedF8 s
  | .unusedF9 => Sys2Proof.Machine.execUnusedF9 s
  | .unusedFa => Sys2Proof.Machine.execUnusedFa s
  | .unusedFb => Sys2Proof.Machine.execUnusedFb s
  | .unusedFc => Sys2Proof.Machine.execUnusedFc s
  | .unusedFd => Sys2Proof.Machine.execUnusedFd s
  | .unusedFe => Sys2Proof.Machine.execUnusedFe s
  | .unusedFf => Sys2Proof.Machine.execUnusedFf s

end Sys2Proof.Machine
end

