-- ==== Sys2Proof/Machine/Fetch.lean ====
section
/-! DEFINITION. Fetching and decoding the instruction at the cursor (spec/40_dispatch.md R171 to R173). -/

namespace Sys2Proof.Machine

/-- `n` code units from offset `k` on, in order; the first outside the stream faults F3 (R125). -/
def Method.unitsFrom (m : Method) (k : Nat) : Nat → Checked (List CodeUnit)
  | 0 => .ok []
  | n + 1 =>
    match m.unit k with
    | .error f => .error f
    | .ok u =>
      match m.unitsFrom (k + 1) n with
      | .error f => .error f
      | .ok us => .ok (u :: us)

/-- The instruction at offset `pc0`: its first unit selects the format, which says how many units are read (R171 to R173).
An unassigned opcode reads one unit. The decoder has all the units it needs, so its refusal does not occur. -/
def Method.fetch (m : Method) (pc0 : Nat) : Checked Instr :=
  match m.unit pc0 with
  | .error f => .error f
  | .ok u0 =>
    match m.unitsFrom pc0 (shapeOf (lowByte u0)).len with
    | .error f => .error f
    | .ok units =>
      match decode units with
      | .ok i => .ok i
      | .error _ => .error (.pcRange pc0)

end Sys2Proof.Machine
end

