-- ==== Sys2Proof/Machine/Step.lean ====
section
/-! DEFINITION. The engine step (spec/40_dispatch.md R170), and the placing of an instruction where the next step fetches
it. -/

namespace Sys2Proof.Machine

/-- One engine step, chosen by FAULT, the stack and the status of the top activation (R170, R643). -/
def step (s : State) : Host.Outcome State Fault Refusal :=
  match s.fault with
  | some f => .fault (.engineStopped f)
  | none =>
    match s.stack with
    | [] => .next (idleStep s)
    | a :: rest =>
      match a.st with
      | .run =>
        match a.method.fetch a.pc with
        | .ok i => exec i s
        | .error f => .next (s.abort f)
      | .throwing => throwingStep s a rest
      | .finished => deliver s a.ret rest
      | .calling => .fault .callingOnTop

/-- The activation that stands for a host's entry into a method whose code is to be placed: static, void, 257 registers,
all of them parameter slots holding 0 (R701, R703; assumption 7). The 257 slots are the pairs an 8-bit field can name. -/
def Activation.blank : Activation :=
  { regs := List.replicate 257 { word := 0#64, written := true }, pc := 0, st := .run, exc := none, rv := 0#64,
    rvw := false, inv := .idle, ret := .void,
    method := { code := { cells := [] }, len := 0, nreg := 257, nins := 257,
                shorty := { ret := none, params := [] }, isStatic := true, tries := [] } }

/-- An activation with an instruction of the opcode table stored at its cursor, ready to fetch it. -/
def Activation.withTableWord (a : Activation) (nbits w : Nat) : Activation :=
  { a with st := .run, inv := .idle, method := a.method.withUnits a.pc (tableUnits nbits w) }

/-- The state whose next step fetches and runs the instruction of a table word (assumption 7). -/
def State.withFetchWord (s : State) (nbits w : Nat) : State :=
  match s.stack with
  | [] => { s with fault := none, stack := [Activation.blank.withTableWord nbits w] }
  | a :: rest => { s with fault := none, stack := a.withTableWord nbits w :: rest }

end Sys2Proof.Machine
end

