-- ==== Sys2Proof/Safety.lean ====
section
/-! DEFINITION. The terms the claims use: the invariant of reachable states, the next states that results are written
as, the registers an instruction may write, and the exact real value of a floating-point datum. -/

namespace Sys2Proof.Machine

/-! ### The invariant -/

/-- ST and INV agree (R53, R56, R550, R570): an activation is in CALLING status exactly while it waits for the callee it has
pushed, and INV is Idle in every other status; one in THROWING status has an exception; one in FINISHED status has staged a
value of its method's return code (R446). A waiting activation has its invoke's three units below L. -/
def Activation.statusOk (a : Activation) : Bool :=
  match a.st, a.inv with
  | .run, .idle => true
  | .throwing, .idle => a.exc.isSome
  | .finished, .idle =>
    match a.ret with
    | .void => decide (a.method.shorty.ret = none)
    | .value v => decide (a.method.shorty.ret = some v.code)
  | .calling, .callInterpreted _ => decide (a.pc + 3 ≤ a.method.len)
  | _, _ => false

/-- The method is within the ranges of R7, and its stream is in canonical form and inside its length (R81). -/
def Method.ok (m : Method) : Bool :=
  decide (1 ≤ m.nreg) && decide (m.nreg ≤ regMax) && decide (m.nins ≤ m.nreg) && decide (m.len ≤ codeMax) &&
    m.code.wf && m.code.below (2 * m.len)

/-- The register file has NREG slots (R32), the cursor lies in [0, L] (R50), the method is as R7 says, and ST and INV
agree. -/
def Activation.ok (a : Activation) : Bool :=
  decide (a.regs.length = a.method.nreg) && decide (a.pc ≤ a.method.len) && a.method.ok && a.statusOk

/-- An activation whose invoke's step has a host call outstanding stands as that step found it, its invoke's three units
below L (R563, R705). -/
def Activation.inHostCall (a : Activation) : Bool := decide (a.st = .run) && decide (a.pc + 3 ≤ a.method.len)

/-- The activations below the top: each waits for its callee above it, or has the next of the outstanding host calls, and
none of those is left over (R170, R570, R705). -/
def belowOk : List StagedCall → List Activation → Bool
  | calls, [] => calls.isEmpty
  | calls, b :: rest =>
    b.ok && if b.awaitsCallee then belowOk calls rest
      else match calls with
        | [] => false
        | _ :: calls => b.inHostCall && belowOk calls rest

/-- The stack of a reachable state with its outstanding host calls: the top activation is not in CALLING status (R170). -/
def stackOk (calls : List StagedCall) : List Activation → Bool
  | [] => calls.isEmpty
  | a :: rest => a.ok && decide (a.st ≠ .calling) && belowOk calls rest

/-- The invariant of the engine: MAX_DEPTH is at least 1 (R7) and the stack no deeper (R562); the stack is as `stackOk` says;
and the host's exception-raised state is clear while the engine runs (R604). A state with FAULT set takes no step (R611),
so of it nothing is asked but the depth. -/
def State.inv (s : State) : Bool :=
  decide (1 ≤ s.params.maxDepth) && decide (s.stack.length ≤ s.params.maxDepth) &&
    (s.fault.isSome || (stackOk s.ports.calls s.stack && (s.stack.isEmpty || s.ports.hostExc.isNone)))

/-! ### Next states

Each is written out as a record, so that a claim that an instruction gives it says what changes and that nothing else
does: the activations below, the method with its instruction stream, and every port not named stay as they are. -/

/-- The top activation becomes `b`, nothing else changes. -/
def becomes (s : State) (rest : List Activation) (b : Activation) : StepResult := .next { s with stack := b :: rest }

/-- The top activation becomes `b` and the ports `p`. -/
def becomesAt (s : State) (rest : List Activation) (b : Activation) (p : Ports) : StepResult :=
  .next { s with stack := b :: rest, ports := p }

/-- Slot `d` holds the sign extension of a 32-bit value and the cursor has advanced. -/
def Activation.with32 (a : Activation) (d : Nat) (v : Word32) (n : Nat) : Activation :=
  { a with regs := a.regs.set d { word := v.signExtend 64, written := true }, pc := a.pc + n }

/-- Slot `d` holds the zero extension of a float's 32 bits and the cursor has advanced. -/
def Activation.withF32 (a : Activation) (d : Nat) (v : Word32) (n : Nat) : Activation :=
  { a with regs := a.regs.set d { word := v.setWidth 64, written := true }, pc := a.pc + n }

/-- Slot `d` holds a handle and the cursor has advanced. -/
def Activation.withRef (a : Activation) (d : Nat) (h : Handle) (n : Nat) : Activation :=
  { a with regs := a.regs.set d { word := h, written := true }, pc := a.pc + n }

/-- Slots `d` and `d + 1` hold the low and high half of a 64-bit value and the cursor has advanced. -/
def Activation.with64 (a : Activation) (d : Nat) (v : Word64) (n : Nat) : Activation :=
  { a with
    regs := (a.regs.set d { word := (v.extractLsb' 0 32).setWidth 64, written := true }).set (d + 1)
      { word := (v.extractLsb' 32 32).setWidth 64, written := true }
    pc := a.pc + n }

/-- The register path of a field's value (R498): a float's bits zero-extended, an int, boolean, byte, short or char
widened and sign-extended, a long or double in a pair, a handle whole. -/
def Activation.withTyped (a : Activation) (d : Nat) (v : TypedValue) (n : Nat) : Activation :=
  match v with
  | .w32 .F bits => a.withF32 d bits n
  | .w32 c bits => a.with32 d (widen c bits) n
  | .w64 _ bits => a.with64 d bits n
  | .ref h => a.withRef d h n

/-- The cursor has gone to `t`. -/
def Activation.atPc (a : Activation) (t : Int) : Activation := { a with pc := t.toNat }

/-- `a` takes the exception `e` with its cursor at `pc`, the ports being `p` (R602). What raised `e` in the host has been
cleared in `p` by the transaction that failed (R604, HostExceptionPickup). -/
def raises (s : State) (a : Activation) (rest : List Activation) (pc : Nat) (e : Handle) (p : Ports) : StepResult :=
  .next { s with stack := { a with pc := pc, exc := some e, st := .throwing, inv := .idle } :: rest,
                 ports := p }

/-- FAULT is set and the host is told (R611). That STACK keeps its activations, which R611 calls abandoned, and that INV is
as it was before the instruction, is the model's reading (assumptions 34 and 27). -/
def faults (s : State) (f : EngineFault) : StepResult :=
  .next { s with fault := some f, ports := { s.ports with delivered := some (.aborted f) } }

/-- The same after transactions that have left the ports `p`. -/
def faultsAt (s : State) (f : EngineFault) (p : Ports) : StepResult :=
  .next { s with fault := some f, ports := { p with delivered := some (.aborted f) } }

/-! ### The decode of an invoke (R551 steps 2 to 7) -/

/-- The resolved method, its shorty, the receiver, the method run, the argument list, and the ports after. -/
structure Decoded (s : State) (a : Activation) (kind : InvokeKind) (idx : Nat) (regs : List Nat) (sh : Shorty)
    (recv : Option Handle) (target : Handle) (args : List TypedValue) (p : Ports) : Prop where
  /-- The method resolves, and the words its shorty needs are as many as the registers. -/
  resolves : ∃ m p1 p2, resolveMethod idx (decide (kind = .static)) s.ports = (.ok m, p1) ∧
    shortyOf m p1 = (sh, p2) ∧
    ((kind = .static ∨ kind = .direct) ∧ target = m ∧ p = p2 ∨
      kind ≠ .static ∧ kind ≠ .direct ∧ selectTarget kind m (recv.getD null) p2 = (.ok target, p))
  /-- R558. -/
  words : (if kind = .static then 0 else 1) + paramWords sh.params = regs.length
  /-- R553. -/
  receiver : kind = .static ∧ recv = none ∨
    kind ≠ .static ∧ ∃ h, recv = some h ∧ a.ref (regs.headD 0) = .ok h ∧ h ≠ null
  /-- R556, R557, R560. -/
  params : ∃ ps, a.params sh.params (regs.drop (if kind = .static then 0 else 1)) = .ok ps ∧
    args = recv.toList.map TypedValue.ref ++ ps

/-- The packed invoke of a kind (R573 to R577). -/
def invokePackedInstr (kind : InvokeKind) (n : BitVec 4) (idx : BitVec 16) (c d e f g : BitVec 4) : Instr :=
  match kind with
  | .virtual => .invokeVirtual n idx c d e f g
  | .super => .invokeSuper n idx c d e f g
  | .direct => .invokeDirect n idx c d e f g
  | .static => .invokeStatic n idx c d e f g
  | .interface => .invokeInterface n idx c d e f g

/-- The range invoke of a kind (R578 to R582). -/
def invokeRangeInstr (kind : InvokeKind) (n : BitVec 8) (idx first : BitVec 16) : Instr :=
  match kind with
  | .virtual => .invokeVirtualRange n idx first
  | .super => .invokeSuperRange n idx first
  | .direct => .invokeDirectRange n idx first
  | .static => .invokeStaticRange n idx first
  | .interface => .invokeInterfaceRange n idx first

/-- An invoke instruction with its kind, form, method index and argument registers. -/
inductive IsInvoke : Instr → InvokeKind → ArgForm → Nat → List Nat → Prop where
  | packed (kind : InvokeKind) (n : BitVec 4) (idx : BitVec 16) (c d e f g : BitVec 4) (h : n.toNat ≤ 5) :
      IsInvoke (invokePackedInstr kind n idx c d e f g) kind .packed idx.toNat
        ([c.toNat, d.toNat, e.toNat, f.toNat, g.toNat].take n.toNat)
  | range (kind : InvokeKind) (n : BitVec 8) (idx first : BitVec 16) :
      IsInvoke (invokeRangeInstr kind n idx first) kind .range idx.toNat
        ((List.range n.toNat).map (first.toNat + ·))

end Sys2Proof.Machine

namespace Sys2Proof

/-! ### What an instruction may write -/

/-- The registers an instruction may write (R126): one, or a pair for a 64-bit destination and for a field get, whose
value's own code chooses the width. The others write no register. -/
def Instr.dests (i : Instr) : List Nat :=
  match i with
  | .move a _ => [a.toNat]
  | .moveFrom16 aa _ => [aa.toNat]
  | .move16 aaaa _ => [aaaa.toNat]
  | .moveObject a _ => [a.toNat]
  | .moveObjectFrom16 aa _ => [aa.toNat]
  | .moveObject16 aaaa _ => [aaaa.toNat]
  | .moveResult aa => [aa.toNat]
  | .moveResultObject aa => [aa.toNat]
  | .moveException aa => [aa.toNat]
  | .const4 a _ => [a.toNat]
  | .const16 aa _ => [aa.toNat]
  | .const32 aa _ => [aa.toNat]
  | .constHigh16 aa _ => [aa.toNat]
  | .constString aa _ => [aa.toNat]
  | .constStringJumbo aa _ => [aa.toNat]
  | .constClass aa _ => [aa.toNat]
  | .instanceOf a _ _ => [a.toNat]
  | .arrayLength a _ => [a.toNat]
  | .newInstance aa _ => [aa.toNat]
  | .newArray a _ _ => [a.toNat]
  | .cmplFloat aa _ _ => [aa.toNat]
  | .cmpgFloat aa _ _ => [aa.toNat]
  | .cmplDouble aa _ _ => [aa.toNat]
  | .cmpgDouble aa _ _ => [aa.toNat]
  | .cmpLong aa _ _ => [aa.toNat]
  | .aget aa _ _ => [aa.toNat]
  | .agetObject aa _ _ => [aa.toNat]
  | .agetBoolean aa _ _ => [aa.toNat]
  | .agetByte aa _ _ => [aa.toNat]
  | .agetChar aa _ _ => [aa.toNat]
  | .agetShort aa _ _ => [aa.toNat]
  | .negInt a _ => [a.toNat]
  | .notInt a _ => [a.toNat]
  | .negFloat a _ => [a.toNat]
  | .intToFloat a _ => [a.toNat]
  | .longToInt a _ => [a.toNat]
  | .longToFloat a _ => [a.toNat]
  | .floatToInt a _ => [a.toNat]
  | .doubleToInt a _ => [a.toNat]
  | .doubleToFloat a _ => [a.toNat]
  | .intToByte a _ => [a.toNat]
  | .intToChar a _ => [a.toNat]
  | .intToShort a _ => [a.toNat]
  | .addInt aa _ _ => [aa.toNat]
  | .subInt aa _ _ => [aa.toNat]
  | .mulInt aa _ _ => [aa.toNat]
  | .divInt aa _ _ => [aa.toNat]
  | .remInt aa _ _ => [aa.toNat]
  | .andInt aa _ _ => [aa.toNat]
  | .orInt aa _ _ => [aa.toNat]
  | .xorInt aa _ _ => [aa.toNat]
  | .shlInt aa _ _ => [aa.toNat]
  | .shrInt aa _ _ => [aa.toNat]
  | .ushrInt aa _ _ => [aa.toNat]
  | .addFloat aa _ _ => [aa.toNat]
  | .subFloat aa _ _ => [aa.toNat]
  | .mulFloat aa _ _ => [aa.toNat]
  | .divFloat aa _ _ => [aa.toNat]
  | .remFloat aa _ _ => [aa.toNat]
  | .addInt2addr a _ => [a.toNat]
  | .subInt2addr a _ => [a.toNat]
  | .mulInt2addr a _ => [a.toNat]
  | .divInt2addr a _ => [a.toNat]
  | .remInt2addr a _ => [a.toNat]
  | .andInt2addr a _ => [a.toNat]
  | .orInt2addr a _ => [a.toNat]
  | .xorInt2addr a _ => [a.toNat]
  | .shlInt2addr a _ => [a.toNat]
  | .shrInt2addr a _ => [a.toNat]
  | .ushrInt2addr a _ => [a.toNat]
  | .addFloat2addr a _ => [a.toNat]
  | .subFloat2addr a _ => [a.toNat]
  | .mulFloat2addr a _ => [a.toNat]
  | .divFloat2addr a _ => [a.toNat]
  | .remFloat2addr a _ => [a.toNat]
  | .addIntLit16 a _ _ => [a.toNat]
  | .rsubInt a _ _ => [a.toNat]
  | .mulIntLit16 a _ _ => [a.toNat]
  | .divIntLit16 a _ _ => [a.toNat]
  | .remIntLit16 a _ _ => [a.toNat]
  | .andIntLit16 a _ _ => [a.toNat]
  | .orIntLit16 a _ _ => [a.toNat]
  | .xorIntLit16 a _ _ => [a.toNat]
  | .addIntLit8 aa _ _ => [aa.toNat]
  | .rsubIntLit8 aa _ _ => [aa.toNat]
  | .mulIntLit8 aa _ _ => [aa.toNat]
  | .divIntLit8 aa _ _ => [aa.toNat]
  | .remIntLit8 aa _ _ => [aa.toNat]
  | .andIntLit8 aa _ _ => [aa.toNat]
  | .orIntLit8 aa _ _ => [aa.toNat]
  | .xorIntLit8 aa _ _ => [aa.toNat]
  | .shlIntLit8 aa _ _ => [aa.toNat]
  | .shrIntLit8 aa _ _ => [aa.toNat]
  | .ushrIntLit8 aa _ _ => [aa.toNat]
  | .moveWide a _ => [a.toNat, a.toNat + 1]
  | .moveWideFrom16 aa _ => [aa.toNat, aa.toNat + 1]
  | .moveWide16 aaaa _ => [aaaa.toNat, aaaa.toNat + 1]
  | .moveResultWide aa => [aa.toNat, aa.toNat + 1]
  | .constWide16 aa _ => [aa.toNat, aa.toNat + 1]
  | .constWide32 aa _ => [aa.toNat, aa.toNat + 1]
  | .constWide aa _ => [aa.toNat, aa.toNat + 1]
  | .constWideHigh16 aa _ => [aa.toNat, aa.toNat + 1]
  | .agetWide aa _ _ => [aa.toNat, aa.toNat + 1]
  | .iget a _ _ => [a.toNat, a.toNat + 1]
  | .igetWide a _ _ => [a.toNat, a.toNat + 1]
  | .igetObject a _ _ => [a.toNat, a.toNat + 1]
  | .igetBoolean a _ _ => [a.toNat, a.toNat + 1]
  | .igetByte a _ _ => [a.toNat, a.toNat + 1]
  | .igetChar a _ _ => [a.toNat, a.toNat + 1]
  | .igetShort a _ _ => [a.toNat, a.toNat + 1]
  | .sget aa _ => [aa.toNat, aa.toNat + 1]
  | .sgetWide aa _ => [aa.toNat, aa.toNat + 1]
  | .sgetObject aa _ => [aa.toNat, aa.toNat + 1]
  | .sgetBoolean aa _ => [aa.toNat, aa.toNat + 1]
  | .sgetByte aa _ => [aa.toNat, aa.toNat + 1]
  | .sgetChar aa _ => [aa.toNat, aa.toNat + 1]
  | .sgetShort aa _ => [aa.toNat, aa.toNat + 1]
  | .negLong a _ => [a.toNat, a.toNat + 1]
  | .notLong a _ => [a.toNat, a.toNat + 1]
  | .negDouble a _ => [a.toNat, a.toNat + 1]
  | .intToLong a _ => [a.toNat, a.toNat + 1]
  | .intToDouble a _ => [a.toNat, a.toNat + 1]
  | .longToDouble a _ => [a.toNat, a.toNat + 1]
  | .floatToLong a _ => [a.toNat, a.toNat + 1]
  | .floatToDouble a _ => [a.toNat, a.toNat + 1]
  | .doubleToLong a _ => [a.toNat, a.toNat + 1]
  | .addLong aa _ _ => [aa.toNat, aa.toNat + 1]
  | .subLong aa _ _ => [aa.toNat, aa.toNat + 1]
  | .mulLong aa _ _ => [aa.toNat, aa.toNat + 1]
  | .divLong aa _ _ => [aa.toNat, aa.toNat + 1]
  | .remLong aa _ _ => [aa.toNat, aa.toNat + 1]
  | .andLong aa _ _ => [aa.toNat, aa.toNat + 1]
  | .orLong aa _ _ => [aa.toNat, aa.toNat + 1]
  | .xorLong aa _ _ => [aa.toNat, aa.toNat + 1]
  | .shlLong aa _ _ => [aa.toNat, aa.toNat + 1]
  | .shrLong aa _ _ => [aa.toNat, aa.toNat + 1]
  | .ushrLong aa _ _ => [aa.toNat, aa.toNat + 1]
  | .addDouble aa _ _ => [aa.toNat, aa.toNat + 1]
  | .subDouble aa _ _ => [aa.toNat, aa.toNat + 1]
  | .mulDouble aa _ _ => [aa.toNat, aa.toNat + 1]
  | .divDouble aa _ _ => [aa.toNat, aa.toNat + 1]
  | .remDouble aa _ _ => [aa.toNat, aa.toNat + 1]
  | .addLong2addr a _ => [a.toNat, a.toNat + 1]
  | .subLong2addr a _ => [a.toNat, a.toNat + 1]
  | .mulLong2addr a _ => [a.toNat, a.toNat + 1]
  | .divLong2addr a _ => [a.toNat, a.toNat + 1]
  | .remLong2addr a _ => [a.toNat, a.toNat + 1]
  | .andLong2addr a _ => [a.toNat, a.toNat + 1]
  | .orLong2addr a _ => [a.toNat, a.toNat + 1]
  | .xorLong2addr a _ => [a.toNat, a.toNat + 1]
  | .shlLong2addr a _ => [a.toNat, a.toNat + 1]
  | .shrLong2addr a _ => [a.toNat, a.toNat + 1]
  | .ushrLong2addr a _ => [a.toNat, a.toNat + 1]
  | .addDouble2addr a _ => [a.toNat, a.toNat + 1]
  | .subDouble2addr a _ => [a.toNat, a.toNat + 1]
  | .mulDouble2addr a _ => [a.toNat, a.toNat + 1]
  | .divDouble2addr a _ => [a.toNat, a.toNat + 1]
  | .remDouble2addr a _ => [a.toNat, a.toNat + 1]
  | _ => []

/-- A register an instruction reads, by the view it is read through (R36 to R44). A float is read as its bits. -/
inductive Source where
  | i32 (r : Nat)
  | i64 (r : Nat)
  | ref (r : Nat)
deriving DecidableEq, Repr

/-- The registers an instruction reads before any check or transaction, in the order of its rule's pseudocode (R13, R642). An
invoke and filled-new-array read none before their transactions. -/
def Instr.sources (i : Instr) : List Source :=
  match i with
  | .move _ b => [.i32 b.toNat]
  | .moveFrom16 _ bbbb => [.i32 bbbb.toNat]
  | .move16 _ bbbb => [.i32 bbbb.toNat]
  | .moveWide _ b => [.i64 b.toNat]
  | .moveWideFrom16 _ bbbb => [.i64 bbbb.toNat]
  | .moveWide16 _ bbbb => [.i64 bbbb.toNat]
  | .moveObject _ b => [.ref b.toNat]
  | .moveObjectFrom16 _ bbbb => [.ref bbbb.toNat]
  | .moveObject16 _ bbbb => [.ref bbbb.toNat]
  | .returnVal aa => [.i32 aa.toNat]
  | .returnWide aa => [.i64 aa.toNat]
  | .returnObject aa => [.ref aa.toNat]
  | .monitorEnter aa => [.ref aa.toNat]
  | .monitorExit aa => [.ref aa.toNat]
  | .checkCast aa _ => [.ref aa.toNat]
  | .instanceOf _ b _ => [.ref b.toNat]
  | .arrayLength _ b => [.ref b.toNat]
  | .newArray _ b _ => [.i32 b.toNat]
  | .fillArrayData aa _ => [.ref aa.toNat]
  | .throwObj aa => [.ref aa.toNat]
  | .packedSwitch aa _ => [.i32 aa.toNat]
  | .sparseSwitch aa _ => [.i32 aa.toNat]
  | .cmplFloat _ bb cc => [.i32 bb.toNat, .i32 cc.toNat]
  | .cmpgFloat _ bb cc => [.i32 bb.toNat, .i32 cc.toNat]
  | .cmplDouble _ bb cc => [.i64 bb.toNat, .i64 cc.toNat]
  | .cmpgDouble _ bb cc => [.i64 bb.toNat, .i64 cc.toNat]
  | .cmpLong _ bb cc => [.i64 bb.toNat, .i64 cc.toNat]
  | .ifEq a b _ => [.i32 a.toNat, .i32 b.toNat]
  | .ifNe a b _ => [.i32 a.toNat, .i32 b.toNat]
  | .ifLt a b _ => [.i32 a.toNat, .i32 b.toNat]
  | .ifGe a b _ => [.i32 a.toNat, .i32 b.toNat]
  | .ifGt a b _ => [.i32 a.toNat, .i32 b.toNat]
  | .ifLe a b _ => [.i32 a.toNat, .i32 b.toNat]
  | .ifEqz aa _ => [.i32 aa.toNat]
  | .ifNez aa _ => [.i32 aa.toNat]
  | .ifLtz aa _ => [.i32 aa.toNat]
  | .ifGez aa _ => [.i32 aa.toNat]
  | .ifGtz aa _ => [.i32 aa.toNat]
  | .ifLez aa _ => [.i32 aa.toNat]
  | .aget _ bb cc => [.ref bb.toNat, .i32 cc.toNat]
  | .agetWide _ bb cc => [.ref bb.toNat, .i32 cc.toNat]
  | .agetObject _ bb cc => [.ref bb.toNat, .i32 cc.toNat]
  | .agetBoolean _ bb cc => [.ref bb.toNat, .i32 cc.toNat]
  | .agetByte _ bb cc => [.ref bb.toNat, .i32 cc.toNat]
  | .agetChar _ bb cc => [.ref bb.toNat, .i32 cc.toNat]
  | .agetShort _ bb cc => [.ref bb.toNat, .i32 cc.toNat]
  | .aput aa bb cc => [.i32 aa.toNat, .ref bb.toNat, .i32 cc.toNat]
  | .aputWide aa bb cc => [.i64 aa.toNat, .ref bb.toNat, .i32 cc.toNat]
  | .aputObject aa bb cc => [.ref aa.toNat, .ref bb.toNat, .i32 cc.toNat]
  | .aputBoolean aa bb cc => [.i32 aa.toNat, .ref bb.toNat, .i32 cc.toNat]
  | .aputByte aa bb cc => [.i32 aa.toNat, .ref bb.toNat, .i32 cc.toNat]
  | .aputChar aa bb cc => [.i32 aa.toNat, .ref bb.toNat, .i32 cc.toNat]
  | .aputShort aa bb cc => [.i32 aa.toNat, .ref bb.toNat, .i32 cc.toNat]
  | .iget _ b _ => [.ref b.toNat]
  | .igetWide _ b _ => [.ref b.toNat]
  | .igetObject _ b _ => [.ref b.toNat]
  | .igetBoolean _ b _ => [.ref b.toNat]
  | .igetByte _ b _ => [.ref b.toNat]
  | .igetChar _ b _ => [.ref b.toNat]
  | .igetShort _ b _ => [.ref b.toNat]
  | .iput a b _ => [.i32 a.toNat, .ref b.toNat]
  | .iputWide a b _ => [.i64 a.toNat, .ref b.toNat]
  | .iputObject a b _ => [.ref a.toNat, .ref b.toNat]
  | .iputBoolean a b _ => [.i32 a.toNat, .ref b.toNat]
  | .iputByte a b _ => [.i32 a.toNat, .ref b.toNat]
  | .iputChar a b _ => [.i32 a.toNat, .ref b.toNat]
  | .iputShort a b _ => [.i32 a.toNat, .ref b.toNat]
  | .sput aa _ => [.i32 aa.toNat]
  | .sputWide aa _ => [.i64 aa.toNat]
  | .sputObject aa _ => [.ref aa.toNat]
  | .sputBoolean aa _ => [.i32 aa.toNat]
  | .sputByte aa _ => [.i32 aa.toNat]
  | .sputChar aa _ => [.i32 aa.toNat]
  | .sputShort aa _ => [.i32 aa.toNat]
  | .negInt _ b => [.i32 b.toNat]
  | .notInt _ b => [.i32 b.toNat]
  | .negLong _ b => [.i64 b.toNat]
  | .notLong _ b => [.i64 b.toNat]
  | .negFloat _ b => [.i32 b.toNat]
  | .negDouble _ b => [.i64 b.toNat]
  | .intToLong _ b => [.i32 b.toNat]
  | .intToFloat _ b => [.i32 b.toNat]
  | .intToDouble _ b => [.i32 b.toNat]
  | .longToInt _ b => [.i64 b.toNat]
  | .longToFloat _ b => [.i64 b.toNat]
  | .longToDouble _ b => [.i64 b.toNat]
  | .floatToInt _ b => [.i32 b.toNat]
  | .floatToLong _ b => [.i32 b.toNat]
  | .floatToDouble _ b => [.i32 b.toNat]
  | .doubleToInt _ b => [.i64 b.toNat]
  | .doubleToLong _ b => [.i64 b.toNat]
  | .doubleToFloat _ b => [.i64 b.toNat]
  | .intToByte _ b => [.i32 b.toNat]
  | .intToChar _ b => [.i32 b.toNat]
  | .intToShort _ b => [.i32 b.toNat]
  | .addInt _ bb cc => [.i32 bb.toNat, .i32 cc.toNat]
  | .subInt _ bb cc => [.i32 bb.toNat, .i32 cc.toNat]
  | .mulInt _ bb cc => [.i32 bb.toNat, .i32 cc.toNat]
  | .divInt _ bb cc => [.i32 bb.toNat, .i32 cc.toNat]
  | .remInt _ bb cc => [.i32 bb.toNat, .i32 cc.toNat]
  | .andInt _ bb cc => [.i32 bb.toNat, .i32 cc.toNat]
  | .orInt _ bb cc => [.i32 bb.toNat, .i32 cc.toNat]
  | .xorInt _ bb cc => [.i32 bb.toNat, .i32 cc.toNat]
  | .shlInt _ bb cc => [.i32 bb.toNat, .i32 cc.toNat]
  | .shrInt _ bb cc => [.i32 bb.toNat, .i32 cc.toNat]
  | .ushrInt _ bb cc => [.i32 bb.toNat, .i32 cc.toNat]
  | .addLong _ bb cc => [.i64 bb.toNat, .i64 cc.toNat]
  | .subLong _ bb cc => [.i64 bb.toNat, .i64 cc.toNat]
  | .mulLong _ bb cc => [.i64 bb.toNat, .i64 cc.toNat]
  | .divLong _ bb cc => [.i64 bb.toNat, .i64 cc.toNat]
  | .remLong _ bb cc => [.i64 bb.toNat, .i64 cc.toNat]
  | .andLong _ bb cc => [.i64 bb.toNat, .i64 cc.toNat]
  | .orLong _ bb cc => [.i64 bb.toNat, .i64 cc.toNat]
  | .xorLong _ bb cc => [.i64 bb.toNat, .i64 cc.toNat]
  | .shlLong _ bb cc => [.i64 bb.toNat, .i32 cc.toNat]
  | .shrLong _ bb cc => [.i64 bb.toNat, .i32 cc.toNat]
  | .ushrLong _ bb cc => [.i64 bb.toNat, .i32 cc.toNat]
  | .addFloat _ bb cc => [.i32 bb.toNat, .i32 cc.toNat]
  | .subFloat _ bb cc => [.i32 bb.toNat, .i32 cc.toNat]
  | .mulFloat _ bb cc => [.i32 bb.toNat, .i32 cc.toNat]
  | .divFloat _ bb cc => [.i32 bb.toNat, .i32 cc.toNat]
  | .remFloat _ bb cc => [.i32 bb.toNat, .i32 cc.toNat]
  | .addDouble _ bb cc => [.i64 bb.toNat, .i64 cc.toNat]
  | .subDouble _ bb cc => [.i64 bb.toNat, .i64 cc.toNat]
  | .mulDouble _ bb cc => [.i64 bb.toNat, .i64 cc.toNat]
  | .divDouble _ bb cc => [.i64 bb.toNat, .i64 cc.toNat]
  | .remDouble _ bb cc => [.i64 bb.toNat, .i64 cc.toNat]
  | .addInt2addr a b => [.i32 a.toNat, .i32 b.toNat]
  | .subInt2addr a b => [.i32 a.toNat, .i32 b.toNat]
  | .mulInt2addr a b => [.i32 a.toNat, .i32 b.toNat]
  | .divInt2addr a b => [.i32 a.toNat, .i32 b.toNat]
  | .remInt2addr a b => [.i32 a.toNat, .i32 b.toNat]
  | .andInt2addr a b => [.i32 a.toNat, .i32 b.toNat]
  | .orInt2addr a b => [.i32 a.toNat, .i32 b.toNat]
  | .xorInt2addr a b => [.i32 a.toNat, .i32 b.toNat]
  | .shlInt2addr a b => [.i32 a.toNat, .i32 b.toNat]
  | .shrInt2addr a b => [.i32 a.toNat, .i32 b.toNat]
  | .ushrInt2addr a b => [.i32 a.toNat, .i32 b.toNat]
  | .addLong2addr a b => [.i64 a.toNat, .i64 b.toNat]
  | .subLong2addr a b => [.i64 a.toNat, .i64 b.toNat]
  | .mulLong2addr a b => [.i64 a.toNat, .i64 b.toNat]
  | .divLong2addr a b => [.i64 a.toNat, .i64 b.toNat]
  | .remLong2addr a b => [.i64 a.toNat, .i64 b.toNat]
  | .andLong2addr a b => [.i64 a.toNat, .i64 b.toNat]
  | .orLong2addr a b => [.i64 a.toNat, .i64 b.toNat]
  | .xorLong2addr a b => [.i64 a.toNat, .i64 b.toNat]
  | .shlLong2addr a b => [.i64 a.toNat, .i32 b.toNat]
  | .shrLong2addr a b => [.i64 a.toNat, .i32 b.toNat]
  | .ushrLong2addr a b => [.i64 a.toNat, .i32 b.toNat]
  | .addFloat2addr a b => [.i32 a.toNat, .i32 b.toNat]
  | .subFloat2addr a b => [.i32 a.toNat, .i32 b.toNat]
  | .mulFloat2addr a b => [.i32 a.toNat, .i32 b.toNat]
  | .divFloat2addr a b => [.i32 a.toNat, .i32 b.toNat]
  | .remFloat2addr a b => [.i32 a.toNat, .i32 b.toNat]
  | .addDouble2addr a b => [.i64 a.toNat, .i64 b.toNat]
  | .subDouble2addr a b => [.i64 a.toNat, .i64 b.toNat]
  | .mulDouble2addr a b => [.i64 a.toNat, .i64 b.toNat]
  | .divDouble2addr a b => [.i64 a.toNat, .i64 b.toNat]
  | .remDouble2addr a b => [.i64 a.toNat, .i64 b.toNat]
  | .addIntLit16 _ b _ => [.i32 b.toNat]
  | .rsubInt _ b _ => [.i32 b.toNat]
  | .mulIntLit16 _ b _ => [.i32 b.toNat]
  | .divIntLit16 _ b _ => [.i32 b.toNat]
  | .remIntLit16 _ b _ => [.i32 b.toNat]
  | .andIntLit16 _ b _ => [.i32 b.toNat]
  | .orIntLit16 _ b _ => [.i32 b.toNat]
  | .xorIntLit16 _ b _ => [.i32 b.toNat]
  | .addIntLit8 _ bb _ => [.i32 bb.toNat]
  | .rsubIntLit8 _ bb _ => [.i32 bb.toNat]
  | .mulIntLit8 _ bb _ => [.i32 bb.toNat]
  | .divIntLit8 _ bb _ => [.i32 bb.toNat]
  | .remIntLit8 _ bb _ => [.i32 bb.toNat]
  | .andIntLit8 _ bb _ => [.i32 bb.toNat]
  | .orIntLit8 _ bb _ => [.i32 bb.toNat]
  | .xorIntLit8 _ bb _ => [.i32 bb.toNat]
  | .shlIntLit8 _ bb _ => [.i32 bb.toNat]
  | .shrIntLit8 _ bb _ => [.i32 bb.toNat]
  | .ushrIntLit8 _ bb _ => [.i32 bb.toNat]
  | _ => []

/-- The instructions that do nothing but read registers and write their result to one register or pair: moves, numeric
constants, comparisons, conversions and integer arithmetic that can neither raise nor produce a NaN. -/
def Instr.registerOnly (i : Instr) : Bool :=
  match i with
  | .move _ _ => true
  | .moveFrom16 _ _ => true
  | .move16 _ _ => true
  | .moveWide _ _ => true
  | .moveWideFrom16 _ _ => true
  | .moveWide16 _ _ => true
  | .moveObject _ _ => true
  | .moveObjectFrom16 _ _ => true
  | .moveObject16 _ _ => true
  | .const4 _ _ => true
  | .const16 _ _ => true
  | .const32 _ _ => true
  | .constHigh16 _ _ => true
  | .constWide16 _ _ => true
  | .constWide32 _ _ => true
  | .constWide _ _ => true
  | .constWideHigh16 _ _ => true
  | .cmplFloat _ _ _ => true
  | .cmpgFloat _ _ _ => true
  | .cmplDouble _ _ _ => true
  | .cmpgDouble _ _ _ => true
  | .cmpLong _ _ _ => true
  | .negInt _ _ => true
  | .notInt _ _ => true
  | .negLong _ _ => true
  | .notLong _ _ => true
  | .negFloat _ _ => true
  | .negDouble _ _ => true
  | .intToLong _ _ => true
  | .intToFloat _ _ => true
  | .intToDouble _ _ => true
  | .longToInt _ _ => true
  | .longToFloat _ _ => true
  | .longToDouble _ _ => true
  | .floatToInt _ _ => true
  | .floatToLong _ _ => true
  | .doubleToInt _ _ => true
  | .doubleToLong _ _ => true
  | .intToByte _ _ => true
  | .intToChar _ _ => true
  | .intToShort _ _ => true
  | .addInt _ _ _ => true
  | .subInt _ _ _ => true
  | .mulInt _ _ _ => true
  | .andInt _ _ _ => true
  | .orInt _ _ _ => true
  | .xorInt _ _ _ => true
  | .shlInt _ _ _ => true
  | .shrInt _ _ _ => true
  | .ushrInt _ _ _ => true
  | .addLong _ _ _ => true
  | .subLong _ _ _ => true
  | .mulLong _ _ _ => true
  | .andLong _ _ _ => true
  | .orLong _ _ _ => true
  | .xorLong _ _ _ => true
  | .shlLong _ _ _ => true
  | .shrLong _ _ _ => true
  | .ushrLong _ _ _ => true
  | .addIntLit16 _ _ _ => true
  | .rsubInt _ _ _ => true
  | .mulIntLit16 _ _ _ => true
  | .andIntLit16 _ _ _ => true
  | .orIntLit16 _ _ _ => true
  | .xorIntLit16 _ _ _ => true
  | .addIntLit8 _ _ _ => true
  | .rsubIntLit8 _ _ _ => true
  | .mulIntLit8 _ _ _ => true
  | .andIntLit8 _ _ _ => true
  | .orIntLit8 _ _ _ => true
  | .xorIntLit8 _ _ _ => true
  | .shlIntLit8 _ _ _ => true
  | .shrIntLit8 _ _ _ => true
  | .ushrIntLit8 _ _ _ => true
  | _ => false

/-- The instructions that may write RV: the invokes and filled-new-array (R55). -/
def Instr.writesRV (i : Instr) : Bool :=
  match i with
  | .filledNewArray _ _ _ _ _ _ _ => true
  | .filledNewArrayRange _ _ _ => true
  | .invokeVirtual _ _ _ _ _ _ _ => true
  | .invokeSuper _ _ _ _ _ _ _ => true
  | .invokeDirect _ _ _ _ _ _ _ => true
  | .invokeStatic _ _ _ _ _ _ _ => true
  | .invokeInterface _ _ _ _ _ _ _ => true
  | .invokeVirtualRange _ _ _ => true
  | .invokeSuperRange _ _ _ => true
  | .invokeDirectRange _ _ _ => true
  | .invokeStaticRange _ _ _ => true
  | .invokeInterfaceRange _ _ _ => true
  | _ => false

end Sys2Proof

namespace Sys2Proof.Machine

/-! ### Reading the sources -/

/-- The check a read of a source makes (R35, R48). -/
def Activation.check (a : Activation) : Source → Checked Unit
  | .i32 r => (a.i32 r).map fun _ => ()
  | .i64 r => (a.i64 r).map fun _ => ()
  | .ref r => (a.ref r).map fun _ => ()

/-- The checks of sources read in order: the first fault, if there is one. -/
def Activation.checkAll (a : Activation) : List Source → Checked Unit
  | [] => .ok ()
  | x :: xs => do
    a.check x
    a.checkAll xs

/-- The registers that the declared parameters of an invoke are read from (R556, R557, R560): each by its code, a wide one as
the pair at its first register, the next word passed over. -/
def paramSources : List TypeCode → List Nat → List Source
  | .w32 _ :: cs, r :: rs => .i32 r :: paramSources cs rs
  | .w64 _ :: cs, r :: rs => .i64 r :: paramSources cs (rs.drop 1)
  | .L :: cs, r :: rs => .ref r :: paramSources cs rs
  | _, _ => []

/-! ### Exact values (R351, R357) -/

/-- The real value of ± m × 2^e, as a rational. -/
def scaled (neg : Bool) (m : Nat) (e : Int) : ℚ := (if neg then -1 else 1) * (m : ℚ) * (2 : ℚ) ^ e

/-- The value of a finite datum; 0 for the others. -/
def FloatValue.toRat : FloatValue → ℚ
  | .finite neg m e => scaled neg m e
  | _ => 0

/-- Rounding toward zero (R8). -/
def truncRat (q : ℚ) : Int := if 0 ≤ q then ⌊q⌋ else ⌈q⌉

end Sys2Proof.Machine
end

