-- ==== Sys2Proof/Certificates/Slice0/Obligations.lean ====
section
/-! DEFINITION. The statements for the provers. Each names the rules of spec/ it rests on. `a` is the top activation,
`rest` the activations below it, and an equation `exec … = becomes …` says the whole next state: what is not in it is
unchanged. `a.i32 r = .ok x` says that register `r` exists, is written and reads as `x` (Sys2Proof/Machine/Operands.lean). -/

open Sys2Proof Sys2Proof.Machine

/-! ### Encoding (spec/30_encoding.md) -/

/-- Words written out from R135 to R158 and the opcode map R127 decode to the instructions they stand for. -/
def Obligations.SampleWordsDecode : Prop :=
  decode [0x1201#16] = .ok (.move 2 1) ∧
  decode [0x0502#16, 0x0100#16] = .ok (.moveFrom16 5 0x100) ∧
  decode [0xf112#16] = .ok (.const4 1 0xf) ∧
  decode [0x0018#16, 0xcdef#16, 0x89ab#16, 0x4567#16, 0x0123#16] = .ok (.constWide 0 0x0123456789abcdef) ∧
  decode [0x0090#16, 0x0201#16] = .ok (.addInt 0 1 2) ∧
  decode [0x10b0#16] = .ok (.addInt2addr 0 1) ∧
  decode [0x01e2#16, 0xff02#16] = .ok (.ushrIntLit8 1 2 0xff) ∧
  decode [0x00a6#16, 0x0201#16] = .ok (.addFloat 0 1 2) ∧
  decode [0x2132#16, 0x0004#16] = .ok (.ifEq 1 2 4) ∧
  decode [0x002a#16, 0xfffd#16, 0xffff#16] = .ok (.goto32 0xfffffffd) ∧
  decode [0x0044#16, 0x0201#16] = .ok (.aget 0 1 2) ∧
  decode [0x1052#16, 0x0007#16] = .ok (.iget 0 1 7) ∧
  decode [0x416e#16, 0x0007#16, 0x6543#16] = .ok (.invokeVirtual 4 7 3 4 5 6 1) ∧
  decode [0x0277#16, 0x0007#16, 0x0003#16] = .ok (.invokeStaticRange 2 7 3) ∧
  decode [0xab3e#16] = .ok .unused3e

/-- Decoding the encoding of an instruction gives it back, for every instruction and every operand value. -/
def Obligations.DecodeEncode : Prop := ∀ i : Instr, decode (encode i) = .ok i

/-- Encoding what was decoded gives back the units read, but for the high byte of the first unit where the format
reserves it (formats 10x, 20t, 32x, 30t, R129) or the opcode is unassigned (R128). -/
def Obligations.EncodeDecode : Prop :=
  ∀ (u0 : CodeUnit) (rest : List CodeUnit) (i : Instr), decode (u0 :: rest) = .ok i →
    encode i = (u0 :: rest).take (shapeOf (lowByte u0)).len ∨
      encode i = ((0#8 ++ lowByte u0) :: rest).take (shapeOf (lowByte u0)).len ∧
        ∀ hi : BitVec 8, decode ((hi ++ lowByte u0) :: rest) = .ok i

/-! ### The step (spec/40_dispatch.md, spec/70_reset_and_hazards.md) -/

/-- A step of a running activation whose units at pc decode to `i` is `exec i` (R170 to R174): step adds nothing around
the instruction. -/
def Obligations.StepRunsDecoded : Prop :=
  ∀ (s : State) (a : Activation) (rest : List Activation) (us : List CodeUnit) (i : Instr),
    s.fault = none → s.stack = a :: rest → a.st = .run →
    (∀ k : Nat, ∀ u, us[k]? = some u → a.method.unit ((a.pc + k : Nat) : Int) = .ok u) → decode us = .ok i →
    step s = exec i s

/-- A fetch that runs off the stream stops the engine with F3 at the first offset outside it, before any state is changed
(R125, R171, R173): the cursor at or past L, or an assigned opcode whose last unit would lie at or past L. -/
def Obligations.FetchOffTheEnd : Prop :=
  ∀ (s : State) (a : Activation) (rest : List Activation), s.fault = none → s.stack = a :: rest → a.st = .run →
    (a.method.len ≤ a.pc → step s = faults s (.pcRange a.pc)) ∧
    (∀ u0, a.method.unit (a.pc : Int) = .ok u0 → a.method.len < a.pc + (shapeOf (lowByte u0)).len →
      step s = faults s (.pcRange a.method.len))

/-- The engine fault register (R58): none at construction; while it is set no step is enabled, so nothing clears it. -/
def Obligations.FaultStopsEngine : Prop :=
  State.reset.fault = none ∧
  (∀ (s : State) (f : EngineFault), s.fault = some f → step s = .fault (.engineStopped f)) ∧
  (∀ s t : State, step s = .next t → s.fault = none)

/-- At construction STACK is empty and FAULT is none (R700), and the invariant holds. -/
def Obligations.ResetState : Prop :=
  State.reset.stack = [] ∧ State.reset.fault = none ∧ State.reset.inv = true

/-- Every step from a state that meets the invariant gives one that meets it: the register file keeps NREG slots, the cursor
stays in [0, L], every method stays within the ranges of R7 with its stream canonical, ST and INV agree, the top activation
is not CALLING, each activation below waits for its callee or has one of the outstanding host calls, the stack is no deeper
than MAX_DEPTH, and the host's exception-raised state is clear while the engine runs. Of an engine that a fault has stopped
only the depth is asked. -/
def Obligations.StepKeepsInv : Prop :=
  ∀ s t : State, s.inv = true → step s = .next t → t.inv = true

/-- From a state that meets the invariant a step stops only because FAULT is set, or because the instruction at the cursor
is a monitor-enter that the host never answers (R456: the engine waits and takes no step). The model's own stops of
impossible states (entry 23) are never reached. -/
def Obligations.OnlyFaultStops : Prop :=
  ∀ s : State, s.inv = true →
    (∃ t, step s = .next t) ∨ (∃ f, s.fault = some f ∧ step s = .fault (.engineStopped f)) ∨
    (step s = .fault .monitorUnanswered ∧ ∃ a rest r, s.stack = a :: rest ∧ a.st = .run ∧
      a.method.fetch a.pc = .ok (.monitorEnter r))

/-- The host's entry call (R703) on an idle engine: with as many argument words as NINS and a depth of at least one, a_0 is
pushed with its parameter slots written; with another number of words, F4, and with no depth allowed, F10. The info of
that F4 and F10 and the clearing of the host's exception-raised state are the model's choices (entries 17 and 18). -/
def Obligations.EntryCallBoots : Prop :=
  ∀ (s : State) (call : EntryCall) (later : List EntryCall) (info : MethodInfo) (sh : Shorty) (p1 p2 : Ports),
    s.fault = none → s.stack = [] → s.ports.entries = call :: later →
    methodInfo call.method { s.ports with entries := later, hostExc := none } = (info, p1) →
    shortyOf call.method p1 = (sh, p2) →
    (argWords call.args = info.nins → 1 ≤ s.params.maxDepth → ∀ a,
      Activation.start (info.toMethod sh) call.args = .ok a → step s = .next { s with stack := [a], ports := p2 }) ∧
    (argWords call.args = info.nins → s.params.maxDepth < 1 → step s = faultsAt s (.depth 0) p2) ∧
    (argWords call.args ≠ info.nins → step s = faultsAt s (.paramMismatch 0) p2)

/-- A new activation with parameters (R49, R562 step 3, R701): pc 0, RUN, EXC empty, RVW 0, INV idle, NREG slots, those
below NREG − NINS unwritten, and each argument read back by its own code from its slot on, a narrow one as its low bits. -/
def Obligations.ParameterSlots : Prop :=
  ∀ (m : Method) (args : List TypedValue), argWords args = m.nins → m.nins ≤ m.nreg →
    ∃ a, Activation.start m args = .ok a ∧ a.pc = 0 ∧ a.st = .run ∧ a.exc = none ∧ a.rvw = false ∧ a.inv = .idle ∧
    a.method = m ∧ a.regs.length = m.nreg ∧
    (∀ i < m.nreg - m.nins, ∃ w, a.regs[i]? = some { word := w, written := false }) ∧
    a.params (args.map TypedValue.code) ((List.range m.nins).map (m.nreg - m.nins + ·)) =
      .ok (args.map fun v => match v with
        | .w32 c bits => .w32 c (narrow c bits)
        | v => v)

/-- The 38 unassigned opcodes (R128, R179) record F1 with the opcode and pc0 and change nothing else. -/
def Obligations.UnassignedTrap : Prop :=
  ∀ (s : State) (a : Activation) (rest : List Activation), s.stack = a :: rest →
    exec .unused3e s = faults s (.unknownOpcode 0x3e#8 a.pc) ∧
    exec .unused3f s = faults s (.unknownOpcode 0x3f#8 a.pc) ∧
    exec .unused40 s = faults s (.unknownOpcode 0x40#8 a.pc) ∧
    exec .unused41 s = faults s (.unknownOpcode 0x41#8 a.pc) ∧
    exec .unused42 s = faults s (.unknownOpcode 0x42#8 a.pc) ∧
    exec .unused43 s = faults s (.unknownOpcode 0x43#8 a.pc) ∧
    exec .unused73 s = faults s (.unknownOpcode 0x73#8 a.pc) ∧
    exec .unused79 s = faults s (.unknownOpcode 0x79#8 a.pc) ∧
    exec .unused7a s = faults s (.unknownOpcode 0x7a#8 a.pc) ∧
    exec .unusedE3 s = faults s (.unknownOpcode 0xe3#8 a.pc) ∧
    exec .unusedE4 s = faults s (.unknownOpcode 0xe4#8 a.pc) ∧
    exec .unusedE5 s = faults s (.unknownOpcode 0xe5#8 a.pc) ∧
    exec .unusedE6 s = faults s (.unknownOpcode 0xe6#8 a.pc) ∧
    exec .unusedE7 s = faults s (.unknownOpcode 0xe7#8 a.pc) ∧
    exec .unusedE8 s = faults s (.unknownOpcode 0xe8#8 a.pc) ∧
    exec .unusedE9 s = faults s (.unknownOpcode 0xe9#8 a.pc) ∧
    exec .unusedEa s = faults s (.unknownOpcode 0xea#8 a.pc) ∧
    exec .unusedEb s = faults s (.unknownOpcode 0xeb#8 a.pc) ∧
    exec .unusedEc s = faults s (.unknownOpcode 0xec#8 a.pc) ∧
    exec .unusedEd s = faults s (.unknownOpcode 0xed#8 a.pc) ∧
    exec .unusedEe s = faults s (.unknownOpcode 0xee#8 a.pc) ∧
    exec .unusedEf s = faults s (.unknownOpcode 0xef#8 a.pc) ∧
    exec .unusedF0 s = faults s (.unknownOpcode 0xf0#8 a.pc) ∧
    exec .unusedF1 s = faults s (.unknownOpcode 0xf1#8 a.pc) ∧
    exec .unusedF2 s = faults s (.unknownOpcode 0xf2#8 a.pc) ∧
    exec .unusedF3 s = faults s (.unknownOpcode 0xf3#8 a.pc) ∧
    exec .unusedF4 s = faults s (.unknownOpcode 0xf4#8 a.pc) ∧
    exec .unusedF5 s = faults s (.unknownOpcode 0xf5#8 a.pc) ∧
    exec .unusedF6 s = faults s (.unknownOpcode 0xf6#8 a.pc) ∧
    exec .unusedF7 s = faults s (.unknownOpcode 0xf7#8 a.pc) ∧
    exec .unusedF8 s = faults s (.unknownOpcode 0xf8#8 a.pc) ∧
    exec .unusedF9 s = faults s (.unknownOpcode 0xf9#8 a.pc) ∧
    exec .unusedFa s = faults s (.unknownOpcode 0xfa#8 a.pc) ∧
    exec .unusedFb s = faults s (.unknownOpcode 0xfb#8 a.pc) ∧
    exec .unusedFc s = faults s (.unknownOpcode 0xfc#8 a.pc) ∧
    exec .unusedFd s = faults s (.unknownOpcode 0xfd#8 a.pc) ∧
    exec .unusedFe s = faults s (.unknownOpcode 0xfe#8 a.pc) ∧
    exec .unusedFf s = faults s (.unknownOpcode 0xff#8 a.pc)

/-! ### The instruction stream (spec/20_memory.md) -/

/-- The instruction stream (R82, R83): of a method made from the units the collaborator answers, `CU(k)` is unit k, or F3(k)
outside 0 to L − 1; byte 2k is the low byte of unit k and byte 2k + 1 its high byte; n bytes from offset b read as one
little-endian number, or F3(b) if any lies outside 0 to 2L − 1. -/
def Obligations.CodeUnits : Prop :=
  ∀ (info : MethodInfo) (sh : Shorty),
    let m := info.toMethod sh
    let byte := fun k : Nat => (info.units.getD (k / 2) 0#16).toNat / 256 ^ (k % 2) % 256
    (∀ (k : Nat) (u : CodeUnit), info.units[k]? = some u → m.unit k = .ok u) ∧
    (∀ k : Int, k < 0 ∨ info.units.length ≤ k → m.unit k = .error (.pcRange k)) ∧
    (∀ b n : Nat, b + n ≤ 2 * info.units.length →
      m.memRead b n = .ok ((List.range n).map fun j => byte (b + j) * 256 ^ j).sum) ∧
    (∀ (b : Int) (n : Nat), 0 < n → b < 0 ∨ 2 * info.units.length < b + n → m.memRead b n = .error (.pcRange b))

/-! ### Registers (spec/10_state.md R32 to R47) -/

/-- The views of a written slot or pair (R36 to R45, R86): what each accessor reads after each kind of write. A float or a
double is read and written as its bits. The pair at i reads as the low words of its two slots, whatever wrote them and in
either order. -/
def Obligations.RegisterViews : Prop :=
  ∀ (a : Activation) (i : Nat) (v u : Word32) (w : Word64) (h g : Handle),
    (i < a.regs.length →
      (a.setI32 i v).bind (·.i32 i) = .ok v ∧ (a.setI32 i v).bind (·.ref i) = .ok (v.signExtend 64) ∧
      (a.setF32 i v).bind (·.i32 i) = .ok v ∧ (a.setF32 i v).bind (·.ref i) = .ok (v.setWidth 64) ∧
      (a.setRef i h).bind (·.ref i) = .ok h ∧ (a.setRef i h).bind (·.i32 i) = .ok (h.extractLsb' 0 32)) ∧
    (i + 1 < a.regs.length →
      (a.setI64 i w).bind (·.i64 i) = .ok w ∧ (a.setI64 i w).bind (·.i32 i) = .ok (w.extractLsb' 0 32) ∧
      (a.setI64 i w).bind (·.i32 (i + 1)) = .ok (w.extractLsb' 32 32) ∧
      (a.setI64 i w).bind (·.ref i) = .ok ((w.extractLsb' 0 32).setWidth 64) ∧
      (a.setI64 i w).bind (·.ref (i + 1)) = .ok ((w.extractLsb' 32 32).setWidth 64)) ∧
    (i + 1 < a.regs.length →
      let writes := fun (r : Nat) (x : Word32) (y : Handle) =>
        [(fun b : Activation => b.setI32 r x, x), (fun b => b.setF32 r x, x), (fun b => b.setRef r y, y.extractLsb' 0 32)]
      ∀ low ∈ writes i v h, ∀ high ∈ writes (i + 1) u g,
        ((low.1 a).bind high.1).bind (·.i64 i) = .ok (high.2 ++ low.2) ∧
        ((high.1 a).bind low.1).bind (·.i64 i) = .ok (high.2 ++ low.2))

/-- The register checks (R35, R48), at the accessors and at the instructions. An index at or past NREG is F6 on every
accessor, for a pair when its second slot is; a read of an unwritten slot is F7 with that slot, alone or in a pair
whose other slot is written; a pair with both slots unwritten is F7 with one of them. A fault gives no activation, so
nothing has been written. An instruction one of whose sources is not readable records the fault of the first such one
(of a pair with both slots unwritten that of its first, entry 20), and one that only reads and writes registers records
F6 when its destination is out of range; nothing else changes. An instruction that would write a register past the end,
were the register file longer, records F6 of its destination (R35) after the same transactions and draws, whatever it is
(a get, a result move, a float operation, a division, ...). No method has a register 65535 and a register after it
(R7). -/
def Obligations.RegisterFaults : Prop :=
  ∀ (a : Activation) (i : Nat) (v : Word32) (w : Word64),
    (a.regs.length ≤ i → a.i32 i = .error (.regRange i) ∧ a.ref i = .error (.regRange i) ∧
      a.setI32 i v = .error (.regRange i) ∧ a.setF32 i v = .error (.regRange i) ∧ a.setRef i w = .error (.regRange i)) ∧
    (a.regs.length ≤ i + 1 → a.i64 i = .error (.regRange i) ∧ a.setI64 i w = .error (.regRange i)) ∧
    (∀ x, a.regs[i]? = some { word := x, written := false } →
      a.i32 i = .error (.uninitRead (.slot i)) ∧ a.ref i = .error (.uninitRead (.slot i))) ∧
    (∀ x y, a.regs[i]? = some { word := x, written := false } → a.regs[i + 1]? = some { word := y, written := true } →
      a.i64 i = .error (.uninitRead (.slot i))) ∧
    (∀ x y, a.regs[i]? = some { word := x, written := true } → a.regs[i + 1]? = some { word := y, written := false } →
      a.i64 i = .error (.uninitRead (.slot (i + 1)))) ∧
    (∀ x y, a.regs[i]? = some { word := x, written := false } → a.regs[i + 1]? = some { word := y, written := false } →
      a.i64 i = .error (.uninitRead (.slot i)) ∨ a.i64 i = .error (.uninitRead (.slot (i + 1)))) ∧
    (a.ok = true → a.i64 65535 = .error (.regRange 65535)) ∧
    (∀ (j : Instr) (s : State) (rest : List Activation), s.stack = a :: rest →
      (∀ f, a.checkAll j.sources = .error f → exec j s = faults s f) ∧
      (∀ d, j.registerOnly = true → a.checkAll j.sources = .ok () → j.dests.head? = some d →
        (∃ r ∈ j.dests, a.regs.length ≤ r) → exec j s = faults s (.regRange d)) ∧
      (∀ (n : Nat) (t : State) (b : Activation) (r : Nat) (x : Slot),
        let longer := { a with regs := a.regs ++ List.replicate n { word := 0#64, written := false } }
        exec j { s with stack := longer :: rest } = .next t → t.stack = b :: rest →
        a.regs.length ≤ r → b.regs[r]? = some x → x.written = true →
        ∃ d, j.dests.head? = some d ∧ exec j s = faultsAt s (.regRange d) t.ports))

/-- Narrow typed values (R47). -/
def Obligations.NarrowValues : Prop :=
  ∀ n : Word32,
    widen .Z n = (n.extractLsb' 0 8).zeroExtend 32 ∧ widen .B n = (n.extractLsb' 0 8).signExtend 32 ∧
    widen .C n = (n.extractLsb' 0 16).zeroExtend 32 ∧ widen .S n = (n.extractLsb' 0 16).signExtend 32 ∧
    widen .I n = n ∧ widen .F n = n ∧
    (narrow .Z n).toNat = n.toNat % 2 ^ 8 ∧ (narrow .B n).toNat = n.toNat % 2 ^ 8 ∧
    (narrow .C n).toNat = n.toNat % 2 ^ 16 ∧ (narrow .S n).toNat = n.toNat % 2 ^ 16 ∧
    narrow .I n = n ∧ narrow .F n = n

/-! ### Moves, results and constants (spec/41_move_const.md) -/

/-- nop and the nine moves (R201 to R210): the source is read whole before the destination is written. -/
def Obligations.MovesComplete : Prop :=
  ∀ (s : State) (a : Activation) (rest : List Activation), s.stack = a :: rest →
    exec .nop s = becomes s rest { a with pc := a.pc + 1 } ∧
    (∀ (d r : BitVec 4) (v : Word32), a.i32 r.toNat = .ok v → d.toNat < a.regs.length →
      exec (.move d r) s = becomes s rest (a.with32 d.toNat v 1)) ∧
    (∀ (d : BitVec 8) (r : BitVec 16) (v : Word32), a.i32 r.toNat = .ok v → d.toNat < a.regs.length →
      exec (.moveFrom16 d r) s = becomes s rest (a.with32 d.toNat v 2)) ∧
    (∀ (d r : BitVec 16) (v : Word32), a.i32 r.toNat = .ok v → d.toNat < a.regs.length →
      exec (.move16 d r) s = becomes s rest (a.with32 d.toNat v 3)) ∧
    (∀ (d r : BitVec 4) (v : Word64), a.i64 r.toNat = .ok v → d.toNat + 1 < a.regs.length →
      exec (.moveWide d r) s = becomes s rest (a.with64 d.toNat v 1)) ∧
    (∀ (d : BitVec 8) (r : BitVec 16) (v : Word64), a.i64 r.toNat = .ok v → d.toNat + 1 < a.regs.length →
      exec (.moveWideFrom16 d r) s = becomes s rest (a.with64 d.toNat v 2)) ∧
    (∀ (d r : BitVec 16) (v : Word64), a.i64 r.toNat = .ok v → d.toNat + 1 < a.regs.length →
      exec (.moveWide16 d r) s = becomes s rest (a.with64 d.toNat v 3)) ∧
    (∀ (d r : BitVec 4) (h : Handle), a.ref r.toNat = .ok h → d.toNat < a.regs.length →
      exec (.moveObject d r) s = becomes s rest (a.withRef d.toNat h 1)) ∧
    (∀ (d : BitVec 8) (r : BitVec 16) (h : Handle), a.ref r.toNat = .ok h → d.toNat < a.regs.length →
      exec (.moveObjectFrom16 d r) s = becomes s rest (a.withRef d.toNat h 2)) ∧
    (∀ (d r : BitVec 16) (h : Handle), a.ref r.toNat = .ok h → d.toNat < a.regs.length →
      exec (.moveObject16 d r) s = becomes s rest (a.withRef d.toNat h 3))

/-- move-result, move-result-wide, move-result-object take RV and leave it; with RVW = 0 they fault F7(RV) (R212 to
R215). move-exception takes the caught exception and empties EXC; with EXC empty it faults F5(pc0) (R216). -/
def Obligations.ResultMoves : Prop :=
  ∀ (s : State) (a : Activation) (rest : List Activation) (d : BitVec 8), s.stack = a :: rest →
    (a.rvw = true → d.toNat < a.regs.length →
      exec (.moveResult d) s = becomes s rest (a.with32 d.toNat (a.rv.extractLsb' 0 32) 1) ∧
      exec (.moveResultObject d) s = becomes s rest (a.withRef d.toNat a.rv 1)) ∧
    (a.rvw = true → d.toNat + 1 < a.regs.length →
      exec (.moveResultWide d) s = becomes s rest (a.with64 d.toNat a.rv 1)) ∧
    (a.rvw = false → exec (.moveResult d) s = faults s (.uninitRead .rv) ∧
      exec (.moveResultWide d) s = faults s (.uninitRead .rv) ∧
      exec (.moveResultObject d) s = faults s (.uninitRead .rv)) ∧
    (∀ h, a.exc = some h → d.toNat < a.regs.length →
      exec (.moveException d) s = becomes s rest { a.withRef d.toNat h 1 with exc := none }) ∧
    (a.exc = none → exec (.moveException d) s = faults s (.noPendingException a.pc))

/-- The eight numeric constants (R217 to R224), and const-string, const-string/jumbo and const-class (R225 to R227): one
resolution transaction, its handle stored whole; a class that does not resolve raises X7 with the collaborator's
exception. -/
def Obligations.ConstantsComplete : Prop :=
  ∀ (s : State) (a : Activation) (rest : List Activation), s.stack = a :: rest →
    (∀ d b : BitVec 4, d.toNat < a.regs.length →
      exec (.const4 d b) s = becomes s rest (a.with32 d.toNat (BitVec.ofInt 32 b.toInt) 1)) ∧
    (∀ (d : BitVec 8) (b : BitVec 16), d.toNat < a.regs.length →
      exec (.const16 d b) s = becomes s rest (a.with32 d.toNat (BitVec.ofInt 32 b.toInt) 2) ∧
      exec (.constHigh16 d b) s = becomes s rest (a.with32 d.toNat (b ++ 0#16) 2)) ∧
    (∀ (d : BitVec 8) (v : BitVec 32), d.toNat < a.regs.length →
      exec (.const32 d v) s = becomes s rest (a.with32 d.toNat v 3)) ∧
    (∀ (d : BitVec 8) (b : BitVec 16), d.toNat + 1 < a.regs.length →
      exec (.constWide16 d b) s = becomes s rest (a.with64 d.toNat (BitVec.ofInt 64 b.toInt) 2) ∧
      exec (.constWideHigh16 d b) s = becomes s rest (a.with64 d.toNat (b ++ 0#48) 2)) ∧
    (∀ (d : BitVec 8) (v : BitVec 32), d.toNat + 1 < a.regs.length →
      exec (.constWide32 d v) s = becomes s rest (a.with64 d.toNat (BitVec.ofInt 64 v.toInt) 3)) ∧
    (∀ (d : BitVec 8) (v : BitVec 64), d.toNat + 1 < a.regs.length →
      exec (.constWide d v) s = becomes s rest (a.with64 d.toNat v 5)) ∧
    (∀ (d : BitVec 8) (h : Handle) (p : Ports),
      (∀ b : BitVec 16, d.toNat < a.regs.length → resolveString b.toNat s.ports = (h, p) →
        exec (.constString d b) s = becomesAt s rest (a.withRef d.toNat h 2) p) ∧
      (∀ b : BitVec 32, d.toNat < a.regs.length → resolveString b.toNat s.ports = (h, p) →
        exec (.constStringJumbo d b) s = becomesAt s rest (a.withRef d.toNat h 3) p) ∧
      (∀ b : BitVec 16, d.toNat < a.regs.length → resolveClass b.toNat s.ports = (.ok h, p) →
        exec (.constClass d b) s = becomesAt s rest (a.withRef d.toNat h 2) p) ∧
      (∀ b : BitVec 16, resolveClass b.toNat s.ports = (.fails h, p) →
        exec (.constClass d b) s = raises s a rest a.pc h p))

/-! ### Integer arithmetic (spec/42_arith_int.md) -/

/-- The nine int operations on two registers that cannot raise, three-register and /2addr (R250, R252, R253, R260 to R262,
R265 to R270, R282 to R284, R287 to R292); shifts use bits 4:0 of the amount. The unary int operations and the int
narrowings (R255, R256, R359, R382 to R384). -/
def Obligations.IntRegisterResult : Prop :=
  ∀ (s : State) (a : Activation) (rest : List Activation) (x y : Word32), s.stack = a :: rest →
    let sum := BitVec.ofInt 32 (x.toInt + y.toInt)
    let difference := BitVec.ofInt 32 (x.toInt - y.toInt)
    let product := BitVec.ofInt 32 (x.toInt * y.toInt)
    let left := BitVec.ofNat 32 (x.toNat * 2 ^ (y.toNat % 32))
    let arithmetic := BitVec.ofInt 32 (x.toInt.fdiv (2 ^ (y.toNat % 32)))
    let logical := BitVec.ofNat 32 (x.toNat / 2 ^ (y.toNat % 32))
    (∀ d l r : BitVec 8, a.i32 l.toNat = .ok x → a.i32 r.toNat = .ok y → d.toNat < a.regs.length →
      let result := fun v => becomes s rest (a.with32 d.toNat v 2)
      exec (.addInt d l r) s = result sum ∧ exec (.subInt d l r) s = result difference ∧
      exec (.mulInt d l r) s = result product ∧ exec (.andInt d l r) s = result (x &&& y) ∧
      exec (.orInt d l r) s = result (x ||| y) ∧ exec (.xorInt d l r) s = result (x ^^^ y) ∧
      exec (.shlInt d l r) s = result left ∧ exec (.shrInt d l r) s = result arithmetic ∧
      exec (.ushrInt d l r) s = result logical) ∧
    (∀ d r : BitVec 4, a.i32 d.toNat = .ok x → a.i32 r.toNat = .ok y →
      let result := fun v => becomes s rest (a.with32 d.toNat v 1)
      exec (.addInt2addr d r) s = result sum ∧ exec (.subInt2addr d r) s = result difference ∧
      exec (.mulInt2addr d r) s = result product ∧ exec (.andInt2addr d r) s = result (x &&& y) ∧
      exec (.orInt2addr d r) s = result (x ||| y) ∧ exec (.xorInt2addr d r) s = result (x ^^^ y) ∧
      exec (.shlInt2addr d r) s = result left ∧ exec (.shrInt2addr d r) s = result arithmetic ∧
      exec (.ushrInt2addr d r) s = result logical) ∧
    (∀ d r : BitVec 4, a.i32 r.toNat = .ok x → d.toNat < a.regs.length →
      let result := fun v => becomes s rest (a.with32 d.toNat v 1)
      exec (.negInt d r) s = result (BitVec.ofInt 32 (-x.toInt)) ∧
      exec (.notInt d r) s = result (~~~x) ∧
      exec (.intToByte d r) s = result (BitVec.ofInt 32 ((x.toInt + 128) % 256 - 128)) ∧
      exec (.intToChar d r) s = result (BitVec.ofInt 32 (x.toInt % 65536)) ∧
      exec (.intToShort d r) s = result (BitVec.ofInt 32 ((x.toInt + 32768) % 65536 - 32768)))

/-- The int operations on a register and a literal that cannot raise (R253, R304 to R306, R309 to R314, R317 to R322). A
reverse subtraction is the literal less the register. -/
def Obligations.IntLiteralResult : Prop :=
  ∀ (s : State) (a : Activation) (rest : List Activation) (x : Word32), s.stack = a :: rest →
    (∀ (d r : BitVec 4) (c : BitVec 16), a.i32 r.toNat = .ok x → d.toNat < a.regs.length →
      let result := fun v => becomes s rest (a.with32 d.toNat v 2)
      exec (.addIntLit16 d r c) s = result (BitVec.ofInt 32 (x.toInt + c.toInt)) ∧
      exec (.rsubInt d r c) s = result (BitVec.ofInt 32 (c.toInt - x.toInt)) ∧
      exec (.mulIntLit16 d r c) s = result (BitVec.ofInt 32 (x.toInt * c.toInt)) ∧
      exec (.andIntLit16 d r c) s = result (x &&& c.signExtend 32) ∧
      exec (.orIntLit16 d r c) s = result (x ||| c.signExtend 32) ∧
      exec (.xorIntLit16 d r c) s = result (x ^^^ c.signExtend 32)) ∧
    (∀ d r c : BitVec 8, a.i32 r.toNat = .ok x → d.toNat < a.regs.length →
      let result := fun v => becomes s rest (a.with32 d.toNat v 2)
      exec (.addIntLit8 d r c) s = result (BitVec.ofInt 32 (x.toInt + c.toInt)) ∧
      exec (.rsubIntLit8 d r c) s = result (BitVec.ofInt 32 (c.toInt - x.toInt)) ∧
      exec (.mulIntLit8 d r c) s = result (BitVec.ofInt 32 (x.toInt * c.toInt)) ∧
      exec (.andIntLit8 d r c) s = result (x &&& c.signExtend 32) ∧
      exec (.orIntLit8 d r c) s = result (x ||| c.signExtend 32) ∧
      exec (.xorIntLit8 d r c) s = result (x ^^^ c.signExtend 32) ∧
      exec (.shlIntLit8 d r c) s = result (BitVec.ofNat 32 (x.toNat * 2 ^ (c.toNat % 32))) ∧
      exec (.shrIntLit8 d r c) s = result (BitVec.ofInt 32 (x.toInt.fdiv (2 ^ (c.toNat % 32)))) ∧
      exec (.ushrIntLit8 d r c) s = result (BitVec.ofNat 32 (x.toNat / 2 ^ (c.toNat % 32))))

/-- The nine long operations that cannot raise, three-register and /2addr (R250, R252, R271 to R273, R276 to R281, R293 to
R295, R298 to R303); the amount of a long shift is one int register, of which bits 5:0 count. neg-long, not-long and
cmp-long (R257 to R259). -/
def Obligations.LongRegisterResult : Prop :=
  ∀ (s : State) (a : Activation) (rest : List Activation) (x y : Word64) (n : Word32), s.stack = a :: rest →
    let sum := BitVec.ofInt 64 (x.toInt + y.toInt)
    let difference := BitVec.ofInt 64 (x.toInt - y.toInt)
    let product := BitVec.ofInt 64 (x.toInt * y.toInt)
    let left := BitVec.ofNat 64 (x.toNat * 2 ^ (n.toNat % 64))
    let arithmetic := BitVec.ofInt 64 (x.toInt.fdiv (2 ^ (n.toNat % 64)))
    let logical := BitVec.ofNat 64 (x.toNat / 2 ^ (n.toNat % 64))
    (∀ d l r : BitVec 8, a.i64 l.toNat = .ok x → d.toNat + 1 < a.regs.length →
      let result := fun v => becomes s rest (a.with64 d.toNat v 2)
      (a.i64 r.toNat = .ok y →
        exec (.addLong d l r) s = result sum ∧ exec (.subLong d l r) s = result difference ∧
        exec (.mulLong d l r) s = result product ∧ exec (.andLong d l r) s = result (x &&& y) ∧
        exec (.orLong d l r) s = result (x ||| y) ∧ exec (.xorLong d l r) s = result (x ^^^ y)) ∧
      (a.i32 r.toNat = .ok n →
        exec (.shlLong d l r) s = result left ∧ exec (.shrLong d l r) s = result arithmetic ∧
        exec (.ushrLong d l r) s = result logical)) ∧
    (∀ d r : BitVec 4, a.i64 d.toNat = .ok x →
      let result := fun v => becomes s rest (a.with64 d.toNat v 1)
      (a.i64 r.toNat = .ok y →
        exec (.addLong2addr d r) s = result sum ∧ exec (.subLong2addr d r) s = result difference ∧
        exec (.mulLong2addr d r) s = result product ∧ exec (.andLong2addr d r) s = result (x &&& y) ∧
        exec (.orLong2addr d r) s = result (x ||| y) ∧ exec (.xorLong2addr d r) s = result (x ^^^ y)) ∧
      (a.i32 r.toNat = .ok n →
        exec (.shlLong2addr d r) s = result left ∧ exec (.shrLong2addr d r) s = result arithmetic ∧
        exec (.ushrLong2addr d r) s = result logical)) ∧
    (∀ d r : BitVec 4, a.i64 r.toNat = .ok x → d.toNat + 1 < a.regs.length →
      exec (.negLong d r) s = becomes s rest (a.with64 d.toNat (BitVec.ofInt 64 (-x.toInt)) 1) ∧
      exec (.notLong d r) s = becomes s rest (a.with64 d.toNat (~~~x) 1)) ∧
    (∀ d l r : BitVec 8, a.i64 l.toNat = .ok x → a.i64 r.toNat = .ok y → d.toNat < a.regs.length →
      exec (.cmpLong d l r) s = becomes s rest (a.with32 d.toNat
        (if x.toInt < y.toInt then 0xffffffff#32 else if y.toInt < x.toInt then 1#32 else 0#32) 2))

/-- div and rem, int in four forms and long in two (R251, R263, R264, R274, R275, R285, R286, R296, R297, R307, R308, R315,
R316): with a divisor that is not zero the truncated quotient and its remainder; a zero divisor raises X5, no register is
written and pc stays at pc0. -/
def Obligations.DivideAndRemainder : Prop :=
  (∀ (s : State) (a : Activation) (rest : List Activation), s.stack = a :: rest →
      (∀ x : Word32,
        let quotient := fun y : Int => BitVec.ofInt 32 (x.toInt.tdiv y)
        let remainder := fun y : Int => BitVec.ofInt 32 (x.toInt.tmod y)
        (∀ (d l r : BitVec 8) (y : Word32), a.i32 l.toNat = .ok x → a.i32 r.toNat = .ok y → y.toInt ≠ 0 →
          d.toNat < a.regs.length →
          exec (.divInt d l r) s = becomes s rest (a.with32 d.toNat (quotient y.toInt) 2) ∧
          exec (.remInt d l r) s = becomes s rest (a.with32 d.toNat (remainder y.toInt) 2)) ∧
        (∀ (d r : BitVec 4) (y : Word32), a.i32 d.toNat = .ok x → a.i32 r.toNat = .ok y → y.toInt ≠ 0 →
          exec (.divInt2addr d r) s = becomes s rest (a.with32 d.toNat (quotient y.toInt) 1) ∧
          exec (.remInt2addr d r) s = becomes s rest (a.with32 d.toNat (remainder y.toInt) 1)) ∧
        (∀ (d r : BitVec 4) (c : BitVec 16), a.i32 r.toNat = .ok x → c.toInt ≠ 0 → d.toNat < a.regs.length →
          exec (.divIntLit16 d r c) s = becomes s rest (a.with32 d.toNat (quotient c.toInt) 2) ∧
          exec (.remIntLit16 d r c) s = becomes s rest (a.with32 d.toNat (remainder c.toInt) 2)) ∧
        (∀ d r c : BitVec 8, a.i32 r.toNat = .ok x → c.toInt ≠ 0 → d.toNat < a.regs.length →
          exec (.divIntLit8 d r c) s = becomes s rest (a.with32 d.toNat (quotient c.toInt) 2) ∧
          exec (.remIntLit8 d r c) s = becomes s rest (a.with32 d.toNat (remainder c.toInt) 2))) ∧
      (∀ x y : Word64, y.toInt ≠ 0 →
        let quotient := BitVec.ofInt 64 (x.toInt.tdiv y.toInt)
        let remainder := BitVec.ofInt 64 (x.toInt.tmod y.toInt)
        (∀ d l r : BitVec 8, a.i64 l.toNat = .ok x → a.i64 r.toNat = .ok y → d.toNat + 1 < a.regs.length →
          exec (.divLong d l r) s = becomes s rest (a.with64 d.toNat quotient 2) ∧
          exec (.remLong d l r) s = becomes s rest (a.with64 d.toNat remainder 2)) ∧
        (∀ d r : BitVec 4, a.i64 d.toNat = .ok x → a.i64 r.toNat = .ok y →
          exec (.divLong2addr d r) s = becomes s rest (a.with64 d.toNat quotient 1) ∧
          exec (.remLong2addr d r) s = becomes s rest (a.with64 d.toNat remainder 1)))) ∧
  (∀ (s : State) (a : Activation) (rest : List Activation) (e : Handle) (p : Ports), s.stack = a :: rest →
      throwNew .arithmetic s.ports = (e, p) →
      let x5 := raises s a rest a.pc e p
      (∀ (d l r : BitVec 8) (x : Word32), a.i32 l.toNat = .ok x → a.i32 r.toNat = .ok 0#32 →
        exec (.divInt d l r) s = x5 ∧ exec (.remInt d l r) s = x5) ∧
      (∀ (d r : BitVec 4) (x : Word32), a.i32 d.toNat = .ok x → a.i32 r.toNat = .ok 0#32 →
        exec (.divInt2addr d r) s = x5 ∧ exec (.remInt2addr d r) s = x5) ∧
      (∀ (d r : BitVec 4) (x : Word32), a.i32 r.toNat = .ok x →
        exec (.divIntLit16 d r 0#16) s = x5 ∧ exec (.remIntLit16 d r 0#16) s = x5) ∧
      (∀ (d r : BitVec 8) (x : Word32), a.i32 r.toNat = .ok x →
        exec (.divIntLit8 d r 0#8) s = x5 ∧ exec (.remIntLit8 d r 0#8) s = x5) ∧
      (∀ (d l r : BitVec 8) (x : Word64), a.i64 l.toNat = .ok x → a.i64 r.toNat = .ok 0#64 →
        exec (.divLong d l r) s = x5 ∧ exec (.remLong d l r) s = x5) ∧
      (∀ (d r : BitVec 4) (x : Word64), a.i64 d.toNat = .ok x → a.i64 r.toNat = .ok 0#64 →
        exec (.divLong2addr d r) s = x5 ∧ exec (.remLong2addr d r) s = x5))

/-- The division laws (R251): dividend = divisor × quotient + remainder, the remainder smaller than the divisor in
magnitude and with the sign of the dividend or zero, and MIN / −1 = MIN with remainder 0; at both widths. -/
def Obligations.DivisionLaws : Prop :=
  (∀ x y : Word32, y ≠ 0#32 → y * div32 x y + rem32 x y = x ∧ (rem32 x y).toInt.natAbs < y.toInt.natAbs ∧
    ((rem32 x y).toInt = 0 ∨ (rem32 x y).toInt.sign = x.toInt.sign)) ∧
  (∀ x y : Word64, y ≠ 0#64 → y * div64 x y + rem64 x y = x ∧ (rem64 x y).toInt.natAbs < y.toInt.natAbs ∧
    ((rem64 x y).toInt = 0 ∨ (rem64 x y).toInt.sign = x.toInt.sign)) ∧
  div32 0x80000000#32 0xffffffff#32 = 0x80000000#32 ∧ rem32 0x80000000#32 0xffffffff#32 = 0#32 ∧
  div64 0x8000000000000000#64 0xffffffffffffffff#64 = 0x8000000000000000#64 ∧
  rem64 0x8000000000000000#64 0xffffffffffffffff#64 = 0#64

/-! ### Floating point (spec/43_arith_float_conv.md) -/

/-- The ten float and the ten double operations (R351, R352, R355, R390 to R409): the destination gets the bits of the rounded
or exact result of the operation on the two values; a NaN's bits are drawn (the model's choice, entry 2). -/
def Obligations.FloatArithmetic : Prop :=
  ∀ (s : State) (a : Activation) (rest : List Activation) (p : Ports), s.stack = a :: rest →
    (∀ (x y w : Word32) (f : FloatFormat → FloatValue → FloatValue → Option Nat)
      (three : BitVec 8 → BitVec 8 → BitVec 8 → Instr) (two : BitVec 4 → BitVec 4 → Instr),
      (f, three, two) ∈ [(FloatFormat.add, Instr.addFloat, Instr.addFloat2addr), (FloatFormat.sub, .subFloat, .subFloat2addr),
        (FloatFormat.mul, .mulFloat, .mulFloat2addr), (FloatFormat.div, .divFloat, .divFloat2addr),
        (FloatFormat.rem, .remFloat, .remFloat2addr)] →
      produce32 (f binary32 (asF32 x) (asF32 y)) s.ports = (w, p) →
      (∀ d l r : BitVec 8, a.i32 l.toNat = .ok x → a.i32 r.toNat = .ok y → d.toNat < a.regs.length →
        exec (three d l r) s = becomesAt s rest (a.withF32 d.toNat w 2) p) ∧
      (∀ d r : BitVec 4, a.i32 d.toNat = .ok x → a.i32 r.toNat = .ok y →
        exec (two d r) s = becomesAt s rest (a.withF32 d.toNat w 1) p)) ∧
    (∀ (x y w : Word64) (f : FloatFormat → FloatValue → FloatValue → Option Nat)
      (three : BitVec 8 → BitVec 8 → BitVec 8 → Instr) (two : BitVec 4 → BitVec 4 → Instr),
      (f, three, two) ∈ [(FloatFormat.add, Instr.addDouble, Instr.addDouble2addr), (FloatFormat.sub, .subDouble, .subDouble2addr),
        (FloatFormat.mul, .mulDouble, .mulDouble2addr), (FloatFormat.div, .divDouble, .divDouble2addr),
        (FloatFormat.rem, .remDouble, .remDouble2addr)] →
      produce64 (f binary64 (asF64 x) (asF64 y)) s.ports = (w, p) →
      (∀ d l r : BitVec 8, a.i64 l.toNat = .ok x → a.i64 r.toNat = .ok y → d.toNat + 1 < a.regs.length →
        exec (three d l r) s = becomesAt s rest (a.with64 d.toNat w 2) p) ∧
      (∀ d r : BitVec 4, a.i64 d.toNat = .ok x → a.i64 r.toNat = .ok y →
        exec (two d r) s = becomesAt s rest (a.with64 d.toNat w 1) p))

/-- Rounding to nearest, ties to even (R14, R351, R353), for both formats and every positive rational n / d × 2^e: the
magnitude bits chosen are those of a finite value no other finite value is nearer than, the even one of two equally near;
an infinity is chosen exactly when the value is at least half a last place above the largest finite one. -/
def Obligations.RoundNearestEven : Prop :=
  ∀ f ∈ [binary32, binary64], ∀ (n d : Nat) (e : Int), 0 < n → 0 < d →
    let q : ℚ := (n : ℚ) / d * (2 : ℚ) ^ e
    let value := fun mag : Nat => (f.unpack mag).toRat
    let largest := value (f.infBits - 1)
    f.round n d e ≤ f.infBits ∧
    (f.round n d e = f.infBits ↔ largest + (largest - value (f.infBits - 2)) / 2 ≤ q) ∧
    (f.round n d e < f.infBits → ∀ mag < f.infBits,
      |value (f.round n d e) - q| ≤ |value mag - q| ∧
      (|value (f.round n d e) - q| = |value mag - q| → mag = f.round n d e ∨ f.round n d e % 2 = 0))

/-- The results of the operations on finite and infinite operands (R351 to R355), for both formats. On finite operands a
sum, difference, product or quotient is the exact rational result rounded, with its sign, and so is a remainder a − b ×
trunc(a / b), which for operands of the format is that value with no rounding (R355); where that result is 0 the zero
has the sign of the rule: + for a sum or difference unless both terms are negative, the exclusive or of the signs for a
product or quotient, the dividend's for a remainder. An infinite operand gives the infinity, the zero or, for the
remainder by an infinity, the very dividend. -/
def Obligations.ExactThenRounded : Prop :=
  (∀ f ∈ [binary32, binary64], ∀ (s t : Bool) (m n : Nat) (e g : Int),
    let x := FloatValue.finite s m e
    let y := FloatValue.finite t n g
    let zero := fun neg : Bool => some (f.signed neg 0)
    let infinity := fun neg : Bool => some (f.signed neg f.infBits)
    let rounded := fun (q : ℚ) (bits : Nat) => ∃ (k d : Nat) (h : Int), 0 < d ∧ (k : ℚ) / d * (2 : ℚ) ^ h = |q| ∧
      bits = f.signed (decide (q < 0)) (f.round k d h)
    let remainder := x.toRat - y.toRat * (truncRat (x.toRat / y.toRat))
    (x.toRat + y.toRat ≠ 0 → ∃ b, f.add x y = some b ∧ rounded (x.toRat + y.toRat) b) ∧
    (x.toRat + y.toRat = 0 → f.add x y = zero (s && t)) ∧
    (x.toRat - y.toRat ≠ 0 → ∃ b, f.sub x y = some b ∧ rounded (x.toRat - y.toRat) b) ∧
    (x.toRat - y.toRat = 0 → f.sub x y = zero (s && !t)) ∧
    (x.toRat * y.toRat ≠ 0 → ∃ b, f.mul x y = some b ∧ rounded (x.toRat * y.toRat) b) ∧
    (x.toRat * y.toRat = 0 → f.mul x y = zero (s ^^ t)) ∧
    (x.toRat ≠ 0 → y.toRat ≠ 0 → ∃ b, f.div x y = some b ∧ rounded (x.toRat / y.toRat) b) ∧
    (x.toRat = 0 → y.toRat ≠ 0 → f.div x y = zero (s ^^ t)) ∧
    (x.toRat ≠ 0 → y.toRat = 0 → f.div x y = infinity (s ^^ t)) ∧
    (y.toRat ≠ 0 → remainder ≠ 0 → ∃ b, f.rem x y = some b ∧ rounded remainder b) ∧
    (y.toRat ≠ 0 → remainder = 0 → f.rem x y = zero s) ∧
    f.add (.inf s) y = infinity s ∧ f.add x (.inf t) = infinity t ∧ f.add (.inf s) (.inf s) = infinity s ∧
    f.sub (.inf s) y = infinity s ∧ f.sub x (.inf t) = infinity (!t) ∧ f.sub (.inf s) (.inf (!s)) = infinity s ∧
    f.mul (.inf s) (.inf t) = infinity (s ^^ t) ∧ (y.toRat ≠ 0 → f.mul (.inf s) y = infinity (s ^^ t)) ∧
    (x.toRat ≠ 0 → f.mul x (.inf t) = infinity (s ^^ t)) ∧
    f.div (.inf s) y = infinity (s ^^ t) ∧ f.div x (.inf t) = zero (s ^^ t)) ∧
  (∀ (a : Word32) (s : Bool) (m : Nat) (e : Int) (t : Bool), asF32 a = .finite s m e →
    binary32.rem (asF32 a) (.inf t) = some a.toNat) ∧
  (∀ (a : Word64) (s : Bool) (m : Nat) (e : Int) (t : Bool), asF64 a = .finite s m e →
    binary64.rem (asF64 a) (.inf t) = some a.toNat) ∧
  (∀ (x y : Word32) (s t : Bool) (m n : Nat) (e g : Int), asF32 x = .finite s m e → asF32 y = .finite t n g →
    let a := (asF32 x).toRat
    let b := (asF32 y).toRat
    b ≠ 0 → ∃ c : Word32, binary32.rem (asF32 x) (asF32 y) = some c.toNat ∧
      (∃ u k h, asF32 c = .finite u k h) ∧ (asF32 c).toRat = a - b * (truncRat (a / b))) ∧
  (∀ (x y : Word64) (s t : Bool) (m n : Nat) (e g : Int), asF64 x = .finite s m e → asF64 y = .finite t n g →
    let a := (asF64 x).toRat
    let b := (asF64 y).toRat
    b ≠ 0 → ∃ c : Word64, binary64.rem (asF64 x) (asF64 y) = some c.toNat ∧
      (∃ u k h, asF64 c = .finite u k h) ∧ (asF64 c).toRat = a - b * (truncRat (a / b)))

/-- Exactly the invalid operations and those with a NaN operand give a NaN (R352, R355), and what is then written is a NaN
whatever is drawn. -/
def Obligations.NaNProduced : Prop :=
  (∀ (f : FloatFormat) (x y : FloatValue),
    (f.add x y = none ↔ x = .nan ∨ y = .nan ∨ ∃ b, x = .inf b ∧ y = .inf (!b)) ∧
    (f.sub x y = none ↔ x = .nan ∨ y = .nan ∨ ∃ b, x = .inf b ∧ y = .inf b) ∧
    (f.mul x y = none ↔ x = .nan ∨ y = .nan ∨ (∃ b c e, x = .inf b ∧ y = .finite c 0 e) ∨
      ∃ b c e, x = .finite c 0 e ∧ y = .inf b) ∧
    (f.div x y = none ↔ x = .nan ∨ y = .nan ∨ (∃ b c, x = .inf b ∧ y = .inf c) ∨
      ∃ b c e g, x = .finite b 0 e ∧ y = .finite c 0 g) ∧
    (f.rem x y = none ↔ x = .nan ∨ y = .nan ∨ (∃ b, x = .inf b) ∨ ∃ c g, y = .finite c 0 g)) ∧
  (∀ p : Ports, asF32 (produce32 none p).1 = .nan ∧ asF64 (produce64 none p).1 = .nan)

/-- The four comparisons (R356): the result is the order of the two values, or the instruction's bias when either is a NaN;
an infinity lies beyond every finite value, finite values are ordered by their exact values, and the two zeros are equal. -/
def Obligations.FloatCompare : Prop :=
  (∀ (s : State) (a : Activation) (rest : List Activation), s.stack = a :: rest →
    (∀ (d l r : BitVec 8) (x y : Word32), a.i32 l.toNat = .ok x → a.i32 r.toNat = .ok y → d.toNat < a.regs.length →
      let result := fun v => becomes s rest (a.with32 d.toNat v 2)
      (asF32 x = .nan ∨ asF32 y = .nan →
        exec (.cmplFloat d l r) s = result 0xffffffff#32 ∧ exec (.cmpgFloat d l r) s = result 1#32) ∧
      (∀ o, (asF32 x).order (asF32 y) = some o →
        exec (.cmplFloat d l r) s = result (triState o) ∧ exec (.cmpgFloat d l r) s = result (triState o))) ∧
    (∀ (d l r : BitVec 8) (x y : Word64), a.i64 l.toNat = .ok x → a.i64 r.toNat = .ok y → d.toNat < a.regs.length →
      let result := fun v => becomes s rest (a.with32 d.toNat v 2)
      (asF64 x = .nan ∨ asF64 y = .nan →
        exec (.cmplDouble d l r) s = result 0xffffffff#32 ∧ exec (.cmpgDouble d l r) s = result 1#32) ∧
      (∀ o, (asF64 x).order (asF64 y) = some o →
        exec (.cmplDouble d l r) s = result (triState o) ∧ exec (.cmpgDouble d l r) s = result (triState o)))) ∧
  triState .lt = 0xffffffff#32 ∧ triState .eq = 0#32 ∧ triState .gt = 1#32 ∧
  (∀ (x y : FloatValue), x ≠ .nan → y ≠ .nan →
    (x.order y = some .lt ↔ (x = .inf true ∧ y ≠ .inf true) ∨ (y = .inf false ∧ x ≠ .inf false) ∨
      ((∀ b, x ≠ .inf b) ∧ (∀ b, y ≠ .inf b) ∧ x.toRat < y.toRat)) ∧
    (x.order y = some .gt ↔ y.order x = some .lt) ∧ (x.order y = some .eq ↔ ¬x.order y = some .lt ∧ ¬x.order y = some .gt))

/-- The two negations, which only flip the sign bit (R364, R365), and the conversions to and from floating point and between
int and long (R357 to R359, R370 to R381). -/
def Obligations.FloatUnaryResult : Prop :=
  ∀ (s : State) (a : Activation) (rest : List Activation) (d r : BitVec 4), s.stack = a :: rest →
    (∀ x : Word32, a.i32 r.toNat = .ok x →
      (d.toNat < a.regs.length →
        exec (.intToFloat d r) s = becomes s rest (a.withF32 d.toNat (intBits32 x.toInt) 1) ∧
        exec (.negFloat d r) s = becomes s rest (a.withF32 d.toNat (x ^^^ 0x80000000#32) 1) ∧
        exec (.floatToInt d r) s = becomes s rest (a.with32 d.toNat (BitVec.ofInt 32 ((asF32 x).toInt 31)) 1)) ∧
      (d.toNat + 1 < a.regs.length →
        exec (.intToLong d r) s = becomes s rest (a.with64 d.toNat (BitVec.ofInt 64 x.toInt) 1) ∧
        exec (.intToDouble d r) s = becomes s rest (a.with64 d.toNat (intBits64 x.toInt) 1) ∧
        exec (.floatToLong d r) s = becomes s rest (a.with64 d.toNat (BitVec.ofInt 64 ((asF32 x).toInt 63)) 1) ∧
        ∀ w p, produce64 (binary64.convert (asF32 x)) s.ports = (w, p) →
          exec (.floatToDouble d r) s = becomesAt s rest (a.with64 d.toNat w 1) p)) ∧
    (∀ x : Word64, a.i64 r.toNat = .ok x →
      (d.toNat < a.regs.length →
        exec (.longToInt d r) s = becomes s rest (a.with32 d.toNat (BitVec.ofInt 32 x.toInt) 1) ∧
        exec (.longToFloat d r) s = becomes s rest (a.withF32 d.toNat (intBits32 x.toInt) 1) ∧
        exec (.doubleToInt d r) s = becomes s rest (a.with32 d.toNat (BitVec.ofInt 32 ((asF64 x).toInt 31)) 1) ∧
        ∀ w p, produce32 (binary32.convert (asF64 x)) s.ports = (w, p) →
          exec (.doubleToFloat d r) s = becomesAt s rest (a.withF32 d.toNat w 1) p) ∧
      (d.toNat + 1 < a.regs.length →
        exec (.negDouble d r) s = becomes s rest (a.with64 d.toNat (x ^^^ 0x8000000000000000#64) 1) ∧
        exec (.longToDouble d r) s = becomes s rest (a.with64 d.toNat (intBits64 x.toInt) 1) ∧
        exec (.doubleToLong d r) s = becomes s rest (a.with64 d.toNat (BitVec.ofInt 64 ((asF64 x).toInt 63)) 1)))

/-- Floating point to integer (R357), N = 32 or 64: a NaN gives 0, a value at or past an end of the range that end, an
infinity the end of its sign, every other value its truncation toward zero. -/
def Obligations.FloatToIntSaturates : Prop :=
  ∀ w ∈ [31, 63],
    FloatValue.nan.toInt w = 0 ∧ (FloatValue.inf false).toInt w = 2 ^ w - 1 ∧ (FloatValue.inf true).toInt w = -2 ^ w ∧
    ∀ (neg : Bool) (m : Nat) (e : Int),
      let q := scaled neg m e
      let r := (FloatValue.finite neg m e).toInt w
      (((2 ^ w - 1 : Int) : ℚ) ≤ q → r = 2 ^ w - 1) ∧ (q ≤ ((-2 ^ w : Int) : ℚ) → r = -2 ^ w) ∧
      (((-2 ^ w : Int) : ℚ) < q → q < ((2 ^ w - 1 : Int) : ℚ) → r = truncRat q)

/-- The values that the conversions to floating point give (R351, R353, R358, R371, R374, R375, R381). An integer and a finite
value of the other format are rounded to nearest even with their sign, so that RoundNearestEven says when an infinity or a
zero is written; a zero keeps its sign, the integer 0 gives +0, an infinity stays one of its sign, and exactly a NaN gives a
NaN. int-to-double and float-to-double are exact: the value written is the value read. -/
def Obligations.ConversionsRounded : Prop :=
  (∀ f ∈ [binary32, binary64],
    let rounded := fun (q : ℚ) (bits : Nat) => ∃ (k d : Nat) (h : Int), 0 < d ∧ (k : ℚ) / d * (2 : ℚ) ^ h = |q| ∧
      bits = f.signed (decide (q < 0)) (f.round k d h)
    (∀ z : Int, z ≠ 0 → (f = binary32 → rounded z (intBits32 z).toNat) ∧ (f = binary64 → rounded z (intBits64 z).toNat)) ∧
    (∀ v : FloatValue, f.convert v = none ↔ v = .nan) ∧
    (∀ neg, f.convert (.inf neg) = some (f.signed neg f.infBits)) ∧
    (∀ (neg : Bool) (m : Nat) (e : Int),
      let q := (FloatValue.finite neg m e).toRat
      (q = 0 → f.convert (.finite neg m e) = some (f.signed neg 0)) ∧
      (q ≠ 0 → ∃ b, f.convert (.finite neg m e) = some b ∧ rounded q b))) ∧
  intBits32 0 = 0#32 ∧ intBits64 0 = 0#64 ∧
  (∀ x : Word32, (asF64 (intBits64 x.toInt)).toRat = (x.toInt : ℚ)) ∧
  (∀ (x : Word32) (neg : Bool) (m : Nat) (e : Int), asF32 x = .finite neg m e →
    ∃ b, binary64.convert (asF32 x) = some b ∧ (asF64 (BitVec.ofNat 64 b)).toRat = (asF32 x).toRat)

/-! ### Control flow (spec/44_control_flow.md) -/

/-- The relative jump (R176), as the three gotos make it (R421 to R423): the target is pc0 plus the signed offset in code
units, computed in the integers, and a target outside [0, L] is F3. -/
def Obligations.GotoJumps : Prop :=
  ∀ (s : State) (a : Activation) (rest : List Activation), s.stack = a :: rest →
    let jumps := fun (i : Instr) (t : Int) =>
      (0 ≤ t ∧ t ≤ a.method.len → exec i s = becomes s rest (a.atPc t)) ∧
      (t < 0 ∨ a.method.len < t → exec i s = faults s (.pcRange t))
    (∀ o : BitVec 8, jumps (.goto o) (a.pc + o.toInt)) ∧ (∀ o : BitVec 16, jumps (.goto16 o) (a.pc + o.toInt)) ∧
    (∀ o : BitVec 32, jumps (.goto32 o) (a.pc + o.toInt))

/-- The twelve conditional branches (R424 to R436): signed comparison; not taken, the cursor passes the instruction; taken,
it moves by the offset, and a target outside [0, L] is F3. -/
def Obligations.ConditionalBranches : Prop :=
  ∀ (s : State) (a : Activation) (rest : List Activation) (x y : Word32) (o : BitVec 16), s.stack = a :: rest →
    let branches := fun (i : Instr) (taken : Prop) =>
      (¬taken → exec i s = becomes s rest { a with pc := a.pc + 2 }) ∧
      (taken → 0 ≤ a.pc + o.toInt → a.pc + o.toInt ≤ a.method.len →
        exec i s = becomes s rest (a.atPc (a.pc + o.toInt))) ∧
      (taken → a.pc + o.toInt < 0 ∨ a.method.len < a.pc + o.toInt → exec i s = faults s (.pcRange (a.pc + o.toInt)))
    (∀ l r : BitVec 4, a.i32 l.toNat = .ok x → a.i32 r.toNat = .ok y →
      branches (.ifEq l r o) (x.toInt = y.toInt) ∧ branches (.ifNe l r o) (x.toInt ≠ y.toInt) ∧
      branches (.ifLt l r o) (x.toInt < y.toInt) ∧ branches (.ifGe l r o) (x.toInt ≥ y.toInt) ∧
      branches (.ifGt l r o) (x.toInt > y.toInt) ∧ branches (.ifLe l r o) (x.toInt ≤ y.toInt)) ∧
    (∀ l : BitVec 8, a.i32 l.toNat = .ok x →
      branches (.ifEqz l o) (x.toInt = 0) ∧ branches (.ifNez l o) (x.toInt ≠ 0) ∧
      branches (.ifLtz l o) (x.toInt < 0) ∧ branches (.ifGez l o) (x.toInt ≥ 0) ∧
      branches (.ifGtz l o) (x.toInt > 0) ∧ branches (.ifLez l o) (x.toInt ≤ 0))

/-- packed-switch (R437, R438): a wrong magic is F2; an index in the table jumps to its target, F3 outside [0, L]; any other
value falls through, without the targets being read; a unit of the header or of the selected target that lies outside the
stream is F3. -/
def Obligations.PackedSwitch : Prop :=
  ∀ (s : State) (a : Activation) (rest : List Activation) (r : BitVec 8) (o : BitVec 32) (v : Word32),
    s.stack = a :: rest →
    a.i32 r.toNat = .ok v →
    let t : Int := a.pc + o.toInt
    let length : Int := a.method.len
    let leaves := fun k : Int => exec (.packedSwitch r o) s = faults s (.pcRange k)
    (t < 0 ∨ length ≤ t → leaves t) ∧
    (∀ u, a.method.unit t = .ok u → u ≠ 0x0100#16 → exec (.packedSwitch r o) s = faults s (.badMagic t u)) ∧
    (a.method.unit t = .ok 0x0100#16 → length ≤ t + 1 → leaves (t + 1)) ∧
    (∀ size, a.method.unit t = .ok 0x0100#16 → a.method.unit (t + 1) = .ok size →
      length ≤ t + 3 → ∃ k ∈ [t + 2, t + 3], length ≤ k ∧ leaves k) ∧
    (∀ size first, a.method.unit t = .ok 0x0100#16 → a.method.unit (t + 1) = .ok size →
      a.method.unit32 (t + 2) = .ok first →
      let k := (v - first).toInt
      (k < 0 ∨ size.toNat ≤ k → exec (.packedSwitch r o) s = becomes s rest { a with pc := a.pc + 3 }) ∧
      (0 ≤ k → k < size.toNat → length ≤ t + 5 + 2 * k → ∃ j ∈ [t + 4 + 2 * k, t + 5 + 2 * k], length ≤ j ∧ leaves j) ∧
      (∀ target : Word32, 0 ≤ k → k < size.toNat → a.method.unit32 (t + 4 + 2 * k) = .ok target →
        (0 ≤ a.pc + target.toInt → a.pc + target.toInt ≤ a.method.len →
          exec (.packedSwitch r o) s = becomes s rest (a.atPc (a.pc + target.toInt))) ∧
        (a.pc + target.toInt < 0 ∨ a.method.len < a.pc + target.toInt → leaves (a.pc + target.toInt))))

/-- sparse-switch (R439, R440): a wrong magic is F2; keys not strictly ascending are F8; the key equal to the value jumps to
its target, F3 outside [0, L]; a value that is no key falls through; a unit of the header, of any key or of the selected
target that lies outside the stream is F3. -/
def Obligations.SparseSwitch : Prop :=
  ∀ (s : State) (a : Activation) (rest : List Activation) (r : BitVec 8) (o : BitVec 32) (v : Word32),
    s.stack = a :: rest →
    a.i32 r.toNat = .ok v →
    let t : Int := a.pc + o.toInt
    let length : Int := a.method.len
    let leaves := fun k : Int => exec (.sparseSwitch r o) s = faults s (.pcRange k)
    (t < 0 ∨ length ≤ t → leaves t) ∧
    (∀ u, a.method.unit t = .ok u → u ≠ 0x0200#16 → exec (.sparseSwitch r o) s = faults s (.badMagic t u)) ∧
    (a.method.unit t = .ok 0x0200#16 → length ≤ t + 1 → leaves (t + 1)) ∧
    (∀ size : CodeUnit, a.method.unit t = .ok 0x0200#16 → a.method.unit (t + 1) = .ok size →
      length < t + 2 + 2 * size.toNat → ∃ k, length ≤ k ∧ k < t + 2 + 2 * size.toNat ∧ leaves k) ∧
    (∀ (size : CodeUnit) (keys : List Word32), a.method.unit t = .ok 0x0200#16 → a.method.unit (t + 1) = .ok size →
      keys.length = size.toNat → (∀ j : Nat, ∀ k, keys[j]? = some k → a.method.unit32 (t + 2 + 2 * j) = .ok k) →
      (¬keys.Pairwise (fun j k => j.toInt < k.toInt) → exec (.sparseSwitch r o) s = faults s (.badTable t)) ∧
      (keys.Pairwise (fun j k => j.toInt < k.toInt) → v ∉ keys →
        exec (.sparseSwitch r o) s = becomes s rest { a with pc := a.pc + 3 }) ∧
      (∀ j : Nat, keys.Pairwise (fun j k => j.toInt < k.toInt) → keys[j]? = some v →
        let entry : Int := t + 2 + 2 * size.toNat + 2 * j
        (length ≤ entry + 1 → ∃ k ∈ [entry, entry + 1], length ≤ k ∧ leaves k) ∧
        (∀ target : Word32, a.method.unit32 entry = .ok target →
          (0 ≤ a.pc + target.toInt → a.pc + target.toInt ≤ a.method.len →
            exec (.sparseSwitch r o) s = becomes s rest (a.atPc (a.pc + target.toInt))) ∧
          (a.pc + target.toInt < 0 ∨ a.method.len < a.pc + target.toInt → leaves (a.pc + target.toInt)))))

/-- throw (R441): the object becomes the pending exception with pc at pc0; a NULL raises X1 instead. -/
def Obligations.ThrowRaises : Prop :=
  ∀ (s : State) (a : Activation) (rest : List Activation) (r : BitVec 8) (h : Handle), s.stack = a :: rest →
    a.ref r.toNat = .ok h →
    (h ≠ null → exec (.throwObj r) s = raises s a rest a.pc h s.ports) ∧
    (h = null → ∀ e p, throwNew (.nullPointer .throw) s.ports = (e, p) →
      exec (.throwObj r) s = raises s a rest a.pc e p)

/-- The four returns (R442 to R446): ST becomes FINISHED with the value staged under the method's return code and pc stays;
a return of another kind than the method's is F4(pc0). -/
def Obligations.ReturnsFinish : Prop :=
  ∀ (s : State) (a : Activation) (rest : List Activation) (r : BitVec 8), s.stack = a :: rest →
    let finishes := fun (i : Instr) (v : ReturnValue) => exec i s = becomes s rest { a with st := .finished, ret := v }
    let mismatch := fun i : Instr => exec i s = faults s (.paramMismatch a.pc)
    (a.method.shorty.ret = none → finishes .returnVoid .void) ∧
    (a.method.shorty.ret ≠ none → mismatch .returnVoid) ∧
    (∀ v, a.i32 r.toNat = .ok v →
      (∀ c, a.method.shorty.ret = some (.w32 c) → finishes (.returnVal r) (.value (.w32 c v))) ∧
      ((∀ c, a.method.shorty.ret ≠ some (.w32 c)) → mismatch (.returnVal r))) ∧
    (∀ v, a.i64 r.toNat = .ok v →
      (∀ c, a.method.shorty.ret = some (.w64 c) → finishes (.returnWide r) (.value (.w64 c v))) ∧
      ((∀ c, a.method.shorty.ret ≠ some (.w64 c)) → mismatch (.returnWide r))) ∧
    (∀ h, a.ref r.toNat = .ok h →
      (a.method.shorty.ret = some .L → finishes (.returnObject r) (.value (.ref h))) ∧
      (a.method.shorty.ret ≠ some .L → mismatch (.returnObject r)))

/-- monitor-enter and monitor-exit (R455 to R457). On an object: success advances the cursor; a refusal raises X8, for
monitor-exit with the cursor already past it. On NULL: MONITOR_NULL chooses between F11(pc0) and X1, and monitor-exit has
advanced the cursor in both cases. A monitor-enter that the host never answers takes no step, which R456 calls stuck; that
the model says so by a stop of its own name is the model's choice (entry 21). -/
def Obligations.Monitors : Prop :=
  ∀ (s : State) (a : Activation) (rest : List Activation) (r : BitVec 8) (h e : Handle) (p : Ports), s.stack = a :: rest →
    a.ref r.toNat = .ok h →
    (h ≠ null →
      (monitorEnterOn h s.ports = (.acquired, p) →
        exec (.monitorEnter r) s = becomesAt s rest { a with pc := a.pc + 1 } p) ∧
      (monitorEnterOn h s.ports = (.fails e, p) → exec (.monitorEnter r) s = raises s a rest a.pc e p) ∧
      (monitorEnterOn h s.ports = (.unanswered, p) → exec (.monitorEnter r) s = .fault .monitorUnanswered) ∧
      (monitorExitOn h s.ports = (.ok (), p) →
        exec (.monitorExit r) s = becomesAt s rest { a with pc := a.pc + 1 } p) ∧
      (monitorExitOn h s.ports = (.fails e, p) → exec (.monitorExit r) s = raises s a rest (a.pc + 1) e p)) ∧
    (h = null →
      (s.params.monitorNull = .fault →
        exec (.monitorEnter r) s = faults s (.nullMonitor a.pc) ∧
        exec (.monitorExit r) s =
          faults { s with stack := { a with pc := a.pc + 1 } :: rest } (.nullMonitor a.pc)) ∧
      (s.params.monitorNull = .npe → throwNew (.nullPointer .monitor) s.ports = (e, p) →
        exec (.monitorEnter r) s = raises s a rest a.pc e p ∧
        exec (.monitorExit r) s = raises s a rest (a.pc + 1) e p))

/-! ### Objects, arrays and fields (spec/45_object_array_field.md) -/

/-- array-length, new-instance, new-array, check-cast, instance-of completing (R471 to R475). -/
def Obligations.ObjectsComplete : Prop :=
  ∀ (s : State) (a : Activation) (rest : List Activation) (h c : Handle) (p1 p2 p3 : Ports), s.stack = a :: rest →
    (∀ (d r : BitVec 4) (n : Word32), a.ref r.toNat = .ok h → h ≠ null → d.toNat < a.regs.length →
      arrayLength h s.ports = (n, p1) → exec (.arrayLength d r) s = becomesAt s rest (a.with32 d.toNat n 1) p1) ∧
    (∀ (d : BitVec 8) (t : BitVec 16), d.toNat < a.regs.length → resolveClass t.toNat s.ports = (.ok c, p1) →
      newObject c p1 = (.ok h, p2) → exec (.newInstance d t) s = becomesAt s rest (a.withRef d.toNat h 2) p2) ∧
    (∀ (d r : BitVec 4) (t : BitVec 16) (n : Word32), a.i32 r.toNat = .ok n → 0 ≤ n.toInt → d.toNat < a.regs.length →
      resolveClass t.toNat s.ports = (.ok c, p1) → allocArray n.toNat t.toNat p1 = (.ok h, p2) →
      exec (.newArray d r t) s = becomesAt s rest (a.withRef d.toNat h 2) p2) ∧
    (∀ (r : BitVec 8) (t : BitVec 16), a.ref r.toNat = .ok h → resolveClass t.toNat s.ports = (.ok c, p1) →
      (h = null ∧ p2 = p1 ∨ h ≠ null ∧ isInstanceOf h c p1 = (true, p2)) →
      exec (.checkCast r t) s = becomesAt s rest { a with pc := a.pc + 2 } p2) ∧
    (∀ (d r : BitVec 4) (t : BitVec 16), a.ref r.toNat = .ok h → d.toNat < a.regs.length →
      resolveClass t.toNat s.ports = (.ok c, p1) →
      (h = null → exec (.instanceOf d r t) s = becomesAt s rest (a.with32 d.toNat 0#32 2) p1) ∧
      (∀ b, h ≠ null → isInstanceOf h c p1 = (b, p3) →
        exec (.instanceOf d r t) s = becomesAt s rest (a.with32 d.toNat (if b then 1#32 else 0#32) 2) p3))

/-- What these five raise (R471 to R475): X1 on a NULL array, X7 when a class or an allocation does not resolve, X8 when
the host cannot allocate, X3 on a negative length with no allocation, X4 on a non-null reference of another class. -/
def Obligations.ObjectsRaise : Prop :=
  ∀ (s : State) (a : Activation) (rest : List Activation) (h c e : Handle) (p1 p2 p3 p4 : Ports), s.stack = a :: rest →
    (∀ d r : BitVec 4, a.ref r.toNat = .ok null → throwNew (.nullPointer .array) s.ports = (e, p1) →
      exec (.arrayLength d r) s = raises s a rest a.pc e p1) ∧
    (∀ (r : BitVec 8) (d q : BitVec 4) (t : BitVec 16) (n : Word32), resolveClass t.toNat s.ports = (.fails e, p1) →
      exec (.newInstance r t) s = raises s a rest a.pc e p1 ∧
      (a.i32 q.toNat = .ok n → exec (.newArray d q t) s = raises s a rest a.pc e p1) ∧
      (a.ref r.toNat = .ok h → exec (.checkCast r t) s = raises s a rest a.pc e p1) ∧
      (a.ref q.toNat = .ok h → exec (.instanceOf d q t) s = raises s a rest a.pc e p1)) ∧
    (∀ (r : BitVec 8) (t : BitVec 16), resolveClass t.toNat s.ports = (.ok c, p1) → newObject c p1 = (.fails e, p2) →
      exec (.newInstance r t) s = raises s a rest a.pc e p2) ∧
    (∀ (d r : BitVec 4) (t : BitVec 16) (n : Word32), a.i32 r.toNat = .ok n →
      resolveClass t.toNat s.ports = (.ok c, p1) →
      (n.toInt < 0 → throwNew (.negativeArraySize n.toInt) p1 = (e, p2) →
        exec (.newArray d r t) s = raises s a rest a.pc e p2) ∧
      (0 ≤ n.toInt → allocArray n.toNat t.toNat p1 = (.fails e, p2) →
        exec (.newArray d r t) s = raises s a rest a.pc e p2)) ∧
    (∀ (r : BitVec 8) (t : BitVec 16) (actual : Handle), a.ref r.toNat = .ok h → h ≠ null →
      resolveClass t.toNat s.ports = (.ok c, p1) → isInstanceOf h c p1 = (false, p2) → classOf h p2 = (actual, p3) →
      throwNew (.classCast actual c) p3 = (e, p4) → exec (.checkCast r t) s = raises s a rest a.pc e p4)

/-- filled-new-array and its range form (R478 to R481): the array goes to RV, no register is written; an element kind other
than int, object or array raises X6, an element register that cannot be read faults F6 or F7 before the allocation, a
failed allocation raises X7, and a packed count above five faults F9(pc0). That a host which
refuses the region store (R67) raises X8 is the model's reading of R604 (entry 29). -/
def Obligations.FilledNewArray : Prop :=
  ∀ (s : State) (a : Activation) (rest : List Activation) (t : BitVec 16) (k : ElemKind) (e arr : Handle)
    (p1 p2 p3 : Ports) (values : RegionValues), s.stack = a :: rest → arrayElementType t.toNat s.ports = (k, p1) →
    let forms := fun (i : Instr) (regs : List Nat) =>
      ((k = .code (.w32 .I) ∧ (∃ vs, a.i32s regs = .ok vs ∧ values = .ints vs) ∨
          (k = .code .L ∨ k = .array) ∧ (∃ hs, a.refs regs = .ok hs ∧ values = .refs k hs)) →
        (allocArray regs.length t.toNat p1 = (.ok arr, p2) →
          (arraySetRegion arr 0 regs.length values p2 = (.ok (), p3) →
            exec i s = becomesAt s rest { a with rv := arr, rvw := true, pc := a.pc + 3 } p3) ∧
          (arraySetRegion arr 0 regs.length values p2 = (.fails e, p3) → exec i s = raises s a rest a.pc e p3)) ∧
        (allocArray regs.length t.toNat p1 = (.fails e, p2) → exec i s = raises s a rest a.pc e p2)) ∧
      (∀ f, (k = .code (.w32 .I) ∧ a.checkAll (regs.map .i32) = .error f ∨
          (k = .code .L ∨ k = .array) ∧ a.checkAll (regs.map .ref) = .error f) → exec i s = faultsAt s f p1) ∧
      (k ≠ .code (.w32 .I) → k ≠ .code .L → k ≠ .array → throwNew (.internalError k) p1 = (e, p2) →
        exec i s = raises s a rest a.pc e p2)
    (∀ n c d x f g : BitVec 4, n.toNat ≤ 5 → forms (.filledNewArray n t c d x f g)
      ([c.toNat, d.toNat, x.toNat, f.toNat, g.toNat].take n.toNat)) ∧
    (∀ (n : BitVec 8) (r : BitVec 16), forms (.filledNewArrayRange n t r)
      ((List.range n.toNat).map (r.toNat + ·))) ∧
    (∀ n c d x f g : BitVec 4, 5 < n.toNat → exec (.filledNewArray n t c d x f g) s = faults s (.malformed a.pc))

/-- fill-array-data (R476, R477): the header is read and checked in order (F2, F8), a table longer than the array raises
X2(length, count), and otherwise the elements go to the host in one region store; X1 on a NULL array; F3 for a unit of the
header outside the stream, and with its byte offset for the first element that does not lie in it. That a host which refuses
the store (R67) raises X8 is the model's reading of R604 (entry 29). -/
def Obligations.FillArrayData : Prop :=
  ∀ (s : State) (a : Activation) (rest : List Activation) (r : BitVec 8) (o : BitVec 32) (arr e : Handle)
    (p1 p2 : Ports), s.stack = a :: rest → a.ref r.toNat = .ok arr →
    let t : Int := a.pc + o.toInt
    let length : Int := a.method.len
    let leaves := fun k : Int => exec (.fillArrayData r o) s = faults s (.pcRange k)
    (arr = null → throwNew (.nullPointer .array) s.ports = (e, p1) →
      exec (.fillArrayData r o) s = raises s a rest a.pc e p1) ∧
    (arr ≠ null → t < 0 ∨ length ≤ t → leaves t) ∧
    (∀ u, arr ≠ null → a.method.unit t = .ok u → u ≠ 0x0300#16 →
      exec (.fillArrayData r o) s = faults s (.badMagic t u)) ∧
    (arr ≠ null → a.method.unit t = .ok 0x0300#16 → length ≤ t + 1 → leaves (t + 1)) ∧
    (∀ width, arr ≠ null → a.method.unit t = .ok 0x0300#16 → a.method.unit (t + 1) = .ok width →
      (width.toNat ∉ [1, 2, 4, 8] → exec (.fillArrayData r o) s = faults s (.badTable t)) ∧
      (width.toNat ∈ [1, 2, 4, 8] → length ≤ t + 3 → ∃ k ∈ [t + 2, t + 3], length ≤ k ∧ leaves k) ∧
      (∀ count len, width.toNat ∈ [1, 2, 4, 8] → a.method.unit32 (t + 2) = .ok count →
        arrayLength arr s.ports = (len, p1) →
        (len.toNat < count.toNat → throwNew (.arrayIndex len.toNat count.toNat) p1 = (e, p2) →
          exec (.fillArrayData r o) s = raises s a rest a.pc e p2) ∧
        (∀ k : Nat, count.toNat ≤ len.toNat → k < count.toNat →
          2 * (t + 4) + k * width.toNat ≤ 2 * length → 2 * length < 2 * (t + 4) + (k + 1) * width.toNat →
          exec (.fillArrayData r o) s = faultsAt s (.pcRange (2 * (t + 4) + k * width.toNat)) p1) ∧
        (∀ es, count.toNat ≤ len.toNat → a.method.elements width.toNat (2 * (t + 4)) count.toNat = .ok es →
          (arraySetRegion arr 0 count.toNat (.raw width.toNat es) p1 = (.ok (), p2) →
            exec (.fillArrayData r o) s = becomesAt s rest { a with pc := a.pc + 3 } p2) ∧
          (arraySetRegion arr 0 count.toNat (.raw width.toNat es) p1 = (.fails e, p2) →
            exec (.fillArrayData r o) s = raises s a rest a.pc e p2))))

/-- The seven array gets and the seven array puts (R482 to R497) on a non-null array with an index in bounds: a get writes the
element, widened by its opcode's code; a put stores the register's value and writes no register, and aput-object raises X8
when the host refuses. -/
def Obligations.ArrayElements : Prop :=
  ∀ (s : State) (a : Activation) (rest : List Activation) (q b c : BitVec 8) (arr : Handle) (i len : Word32)
    (p1 p2 : Ports), s.stack = a :: rest → a.ref b.toNat = .ok arr → a.i32 c.toNat = .ok i → arr ≠ null →
    arrayLength arr s.ports = (len, p1) → 0 ≤ i.toInt → i.toInt < len.toNat →
    let stores := fun (put : Instr) (v : TypedValue) => (arraySet arr i.toInt v p1 = ((), p2) →
      exec put s = becomesAt s rest { a with pc := a.pc + 2 } p2)
    (∀ w : Word64, q.toNat < a.regs.length →
      let low := w.extractLsb' 0 32
      (arrayGet arr (.w32 .I) i.toInt p1 = (w, p2) →
        exec (.aget q b c) s = becomesAt s rest (a.with32 q.toNat low 2) p2) ∧
      (arrayGet arr (.w32 .Z) i.toInt p1 = (w, p2) →
        exec (.agetBoolean q b c) s = becomesAt s rest (a.with32 q.toNat (widen .Z low) 2) p2) ∧
      (arrayGet arr (.w32 .B) i.toInt p1 = (w, p2) →
        exec (.agetByte q b c) s = becomesAt s rest (a.with32 q.toNat (widen .B low) 2) p2) ∧
      (arrayGet arr (.w32 .C) i.toInt p1 = (w, p2) →
        exec (.agetChar q b c) s = becomesAt s rest (a.with32 q.toNat (widen .C low) 2) p2) ∧
      (arrayGet arr (.w32 .S) i.toInt p1 = (w, p2) →
        exec (.agetShort q b c) s = becomesAt s rest (a.with32 q.toNat (widen .S low) 2) p2) ∧
      (arrayGet arr .L i.toInt p1 = (w, p2) →
        exec (.agetObject q b c) s = becomesAt s rest (a.withRef q.toNat w 2) p2) ∧
      (q.toNat + 1 < a.regs.length → arrayGet arr (.w64 .J) i.toInt p1 = (w, p2) →
        exec (.agetWide q b c) s = becomesAt s rest (a.with64 q.toNat w 2) p2)) ∧
    ((∀ v, a.i32 q.toNat = .ok v →
        stores (.aput q b c) (.w32 .I v) ∧ stores (.aputBoolean q b c) (.w32 .Z (narrow .Z v)) ∧
        stores (.aputByte q b c) (.w32 .B (narrow .B v)) ∧ stores (.aputChar q b c) (.w32 .C (narrow .C v)) ∧
        stores (.aputShort q b c) (.w32 .S (narrow .S v))) ∧
      (∀ v, a.i64 q.toNat = .ok v → stores (.aputWide q b c) (.w64 .J v)) ∧
      (∀ v, a.ref q.toNat = .ok v →
        (arraySetRef arr i.toInt v p1 = (.ok (), p2) →
          exec (.aputObject q b c) s = becomesAt s rest { a with pc := a.pc + 2 } p2) ∧
        (∀ e, arraySetRef arr i.toInt v p1 = (.fails e, p2) →
          exec (.aputObject q b c) s = raises s a rest a.pc e p2)))

/-- The fourteen element accesses on a NULL array raise X1 and on an index out of bounds X2(length, index) (R482, R490):
no element is asked for or stored. -/
def Obligations.ElementChecks : Prop :=
  ∀ (s : State) (a : Activation) (rest : List Activation) (r b c : BitVec 8) (arr e : Handle) (i : Word32)
    (p1 p2 : Ports), s.stack = a :: rest → a.ref b.toNat = .ok arr → a.i32 c.toNat = .ok i →
    let checks := fun q : Instr =>
      (arr = null → throwNew (.nullPointer .array) s.ports = (e, p1) → exec q s = raises s a rest a.pc e p1) ∧
      (∀ len, arr ≠ null → arrayLength arr s.ports = (len, p1) → i.toInt < 0 ∨ (len.toNat : Int) ≤ i.toInt →
        throwNew (.arrayIndex len.toNat i.toInt) p1 = (e, p2) → exec q s = raises s a rest a.pc e p2)
    checks (.aget r b c) ∧ checks (.agetWide r b c) ∧ checks (.agetObject r b c) ∧ checks (.agetBoolean r b c) ∧
    checks (.agetByte r b c) ∧ checks (.agetChar r b c) ∧ checks (.agetShort r b c) ∧
    (∀ v, a.i32 r.toNat = .ok v → checks (.aput r b c) ∧ checks (.aputBoolean r b c) ∧ checks (.aputByte r b c) ∧
      checks (.aputChar r b c) ∧ checks (.aputShort r b c)) ∧
    (∀ v, a.i64 r.toNat = .ok v → checks (.aputWide r b c)) ∧
    (∀ v, a.ref r.toNat = .ok v → checks (.aputObject r b c))

/-- The fourteen field gets (R498 to R521): the code of the value the collaborator answers, not the opcode, chooses the
register path; a NULL object raises X1 before the field is resolved, a field that does not resolve X7. -/
def Obligations.FieldGets : Prop :=
  ∀ (s : State) (a : Activation) (rest : List Activation) (v : TypedValue) (e : Handle) (p : Ports), s.stack = a :: rest →
    (∀ (d b : BitVec 4) (x : BitVec 16) (obj : Handle), a.ref b.toNat = .ok obj →
      ∀ i ∈ [Instr.iget d b x, .igetWide d b x, .igetObject d b x, .igetBoolean d b x, .igetByte d b x, .igetChar d b x,
        .igetShort d b x],
      (obj ≠ null → resolveField x.toNat obj s.ports = (.ok v, p) → d.toNat + v.code.width ≤ a.regs.length →
        exec i s = becomesAt s rest (a.withTyped d.toNat v 2) p) ∧
      (obj ≠ null → resolveField x.toNat obj s.ports = (.fails e, p) → exec i s = raises s a rest a.pc e p) ∧
      (obj = null → throwNew (.nullPointer .object) s.ports = (e, p) → exec i s = raises s a rest a.pc e p)) ∧
    (∀ (d : BitVec 8) (x : BitVec 16),
      ∀ i ∈ [Instr.sget d x, .sgetWide d x, .sgetObject d x, .sgetBoolean d x, .sgetByte d x, .sgetChar d x, .sgetShort d x],
      (resolveField x.toNat null s.ports = (.ok v, p) → d.toNat + v.code.width ≤ a.regs.length →
        exec i s = becomesAt s rest (a.withTyped d.toNat v 2) p) ∧
      (resolveField x.toNat null s.ports = (.fails e, p) → exec i s = raises s a rest a.pc e p))

/-- The fourteen field puts (R506 to R513, R522 to R529): the opcode chooses the view the value is read through and its
code; no register is written; X1 on a NULL object, X7 when the collaborator fails. -/
def Obligations.FieldPuts : Prop :=
  ∀ (s : State) (a : Activation) (rest : List Activation) (v : TypedValue) (e : Handle) (p : Ports), s.stack = a :: rest →
    (∀ (r b : BitVec 4) (x : BitVec 16) (obj : Handle), a.ref b.toNat = .ok obj →
      ∀ q ∈ [(Instr.iput r b x, TypeCode.w32 .I), (.iputWide r b x, .w64 .J), (.iputObject r b x, .L),
        (.iputBoolean r b x, .w32 .Z), (.iputByte r b x, .w32 .B), (.iputChar r b x, .w32 .C), (.iputShort r b x, .w32 .S)],
      a.typed q.2 r.toNat = .ok v →
      (obj ≠ null → resolveSetField x.toNat obj v s.ports = (.ok (), p) →
        exec q.1 s = becomesAt s rest { a with pc := a.pc + 2 } p) ∧
      (obj ≠ null → resolveSetField x.toNat obj v s.ports = (.fails e, p) → exec q.1 s = raises s a rest a.pc e p) ∧
      (obj = null → throwNew (.nullPointer .object) s.ports = (e, p) → exec q.1 s = raises s a rest a.pc e p)) ∧
    (∀ (r : BitVec 8) (x : BitVec 16),
      ∀ q ∈ [(Instr.sput r x, TypeCode.w32 .I), (.sputWide r x, .w64 .J), (.sputObject r x, .L),
        (.sputBoolean r x, .w32 .Z), (.sputByte r x, .w32 .B), (.sputChar r x, .w32 .C), (.sputShort r x, .w32 .S)],
      a.typed q.2 r.toNat = .ok v →
      (resolveSetField x.toNat null v s.ports = (.ok (), p) →
        exec q.1 s = becomesAt s rest { a with pc := a.pc + 2 } p) ∧
      (resolveSetField x.toNat null v s.ports = (.fails e, p) → exec q.1 s = raises s a rest a.pc e p))

/-! ### Method invocation (spec/46_invoke.md) -/

/-- The ten invokes with a host call (R551, R563, R564, R572): the call is logged with its arguments, its result goes to RV
by the shorty's return code, a void call clears RVW, and the cursor passes the invoke; a failure raises X8 at pc0. When the
host re-enters the engine inside the call (R705), its entry call is that of R703 on top of the whole STACK: F4 when the
argument words are not NINS, F10 when STACK is at MAX_DEPTH (their info is the model's choice, entry 17), else the first
activation of a new chain is pushed; that the step of the invoke is then open, its activation as the step found it and the
call among the outstanding ones, until ChainEnds ends it, is the model's reading (entry 14). -/
def Obligations.InvokeHostCall : Prop :=
  ∀ (i : Instr) (kind : InvokeKind) (form : ArgForm) (idx : Nat) (regs : List Nat), IsInvoke i kind form idx regs →
  ∀ (s : State) (a : Activation) (rest : List Activation) (sh : Shorty) (recv : Option Handle) (target : Handle)
    (args : List TypedValue) (p p1 p2 : Ports), s.stack = a :: rest →
    Decoded s a kind idx regs sh recv target args p → isInterpretable target p = (false, p1) →
    let logged := { p1 with issued := .call kind target recv args sh :: p1.issued }
    (∀ bits, callAnswer logged = (.returns bits, p2) →
      let value := (match sh.ret with
        | none => a.rv
        | some (.w32 .F) => (bits.extractLsb' 0 32).zeroExtend 64
        | some (.w32 c) => (widen c (bits.extractLsb' 0 32)).signExtend 64
        | some _ => bits)
      exec i s = becomesAt s rest
        { a with st := .run, inv := .idle, pc := a.pc + 3, rv := value, rvw := sh.ret.isSome } p2) ∧
    (∀ e, callAnswer logged = (.fails e, p2) → exec i s = raises s a rest a.pc e p2) ∧
    (∀ entry info own p3 p4, callAnswer logged = (.reenters entry, p2) → methodInfo entry.method p2 = (info, p3) →
      shortyOf entry.method p3 = (own, p4) →
      (argWords entry.args ≠ info.nins → exec i s = faultsAt s (.paramMismatch 0) p4) ∧
      (argWords entry.args = info.nins → s.params.maxDepth ≤ s.stack.length → exec i s = faultsAt s (.depth 0) p4) ∧
      (∀ b, argWords entry.args = info.nins → s.stack.length < s.params.maxDepth →
        Activation.start (info.toMethod own) entry.args = .ok b →
        let staged : StagedCall := { kind := kind, form := form, target := target, args := args, ret := sh.ret }
        exec i s = .next { s with
          stack := b :: { a with st := .run, inv := .idle } :: rest, ports := { p4 with calls := staged :: p4.calls } }))

/-- The ten invokes with a nested activation (R551, R562): the callee is pushed with its parameters, the caller keeps
everything but ST and INV; F4 when the words are not the callee's NINS, F10 when the stack is at MAX_DEPTH. That the callee's
shorty is the one looked up for the resolved method is the model's choice (entry 16). -/
def Obligations.InvokeNested : Prop :=
  ∀ (i : Instr) (kind : InvokeKind) (form : ArgForm) (idx : Nat) (regs : List Nat), IsInvoke i kind form idx regs →
  ∀ (s : State) (a : Activation) (rest : List Activation) (sh : Shorty) (recv : Option Handle) (target : Handle)
    (args : List TypedValue) (p p1 p2 : Ports) (info : MethodInfo), s.stack = a :: rest →
    Decoded s a kind idx regs sh recv target args p → isInterpretable target p = (true, p1) →
    methodInfo target p1 = (info, p2) →
    (regs.length ≠ info.nins → exec i s = faultsAt s (.paramMismatch a.pc) p2) ∧
    (regs.length = info.nins → s.params.maxDepth ≤ s.stack.length → exec i s = faultsAt s (.depth a.pc) p2) ∧
    (∀ b, regs.length = info.nins → s.stack.length < s.params.maxDepth →
      Activation.start (info.toMethod sh) args = .ok b →
      let staged : StagedCall := { kind := kind, form := form, target := target, args := args, ret := sh.ret }
      exec i s = .next { s with
        stack := b :: { a with st := .calling, inv := .callInterpreted staged } :: rest, ports := p2 })

/-- What an invoke checks before the call (R551 to R560): a packed count above five is F9 before any other step; an unresolved
method raises X7; words that do not match the shorty are F4; a receiver register that cannot be read is F6 or F7, and a NULL
receiver raises X1; a target that cannot be selected raises X7; and after the selection the first parameter register that
cannot be read, by the shorty's codes, is F6 or F7. -/
def Obligations.InvokeChecks : Prop :=
  (∀ (s : State) (a : Activation) (rest : List Activation) (kind : InvokeKind) (n c d e f g : BitVec 4) (x : BitVec 16),
    s.stack = a :: rest → 5 < n.toNat → exec (invokePackedInstr kind n x c d e f g) s = faults s (.malformed a.pc)) ∧
  (∀ (i : Instr) (kind : InvokeKind) (form : ArgForm) (idx : Nat) (regs : List Nat), IsInvoke i kind form idx regs →
    ∀ (s : State) (a : Activation) (rest : List Activation) (m recv e : Handle) (sh : Shorty) (p1 p2 p3 : Ports)
      (f : EngineFault), s.stack = a :: rest →
      (resolveMethod idx (decide (kind = .static)) s.ports = (.fails e, p1) → exec i s = raises s a rest a.pc e p1) ∧
      (resolveMethod idx (decide (kind = .static)) s.ports = (.ok m, p1) → shortyOf m p1 = (sh, p2) →
        ((if kind = .static then 0 else 1) + paramWords sh.params ≠ regs.length →
          exec i s = faultsAt s (.paramMismatch a.pc) p2) ∧
        (kind ≠ .static → 1 + paramWords sh.params = regs.length →
          (a.ref (regs.headD 0) = .error f → exec i s = faultsAt s f p2) ∧
          (a.ref (regs.headD 0) = .ok recv →
            (recv = null → throwNew (.nullPointer .receiver) p2 = (e, p3) → exec i s = raises s a rest a.pc e p3) ∧
            (recv ≠ null → kind ≠ .direct → selectTarget kind m recv p2 = (.fails e, p3) →
              exec i s = raises s a rest a.pc e p3) ∧
            (∀ target, recv ≠ null →
              kind = .direct ∧ p3 = p2 ∨ kind ≠ .direct ∧ selectTarget kind m recv p2 = (.ok target, p3) →
              a.checkAll (paramSources sh.params (regs.drop 1)) = .error f → exec i s = faultsAt s f p3))) ∧
        (kind = .static → paramWords sh.params = regs.length → a.checkAll (paramSources sh.params regs) = .error f →
          exec i s = faultsAt s f p2)))

/-- Return delivery (R566): the activation in FINISHED status is popped with its registers, EXC and RV, the caller's RV is
written by the value's code or cleared for void, INV becomes Idle, ST becomes RUN, and the caller goes on three units after
the invoke. -/
def Obligations.ReturnDelivery : Prop :=
  ∀ (s : State) (a : Activation) (rest : List Activation), s.fault = none → s.stack = a :: rest → a.st = .finished →
    ∀ b below call, rest = b :: below → b.inv = .callInterpreted call →
      let value := (match a.ret with
        | .void => b.rv
        | .value (.w32 .F bits) => bits.zeroExtend 64
        | .value (.w32 c bits) => (widen c bits).signExtend 64
        | .value (.w64 _ bits) => bits
        | .value (.ref h) => h)
      step s = .next { s with stack :=
        { b with st := .run, inv := .idle, pc := b.pc + 3, rv := value, rvw := decide (a.ret ≠ .void) } :: below }

/-- The unwinder on a throwing activation (R620, R623, R624, R567). With a handler, the cursor goes to the catch target, ST to
RUN, EXC keeps the exception and no register is written; a target outside [0, L] is F3. With none, the activation is popped
and its caller takes the exception unchanged at the invoke's pc0 and gets no RV. -/
def Obligations.Unwinding : Prop :=
  ∀ (s : State) (a : Activation) (rest : List Activation) (e : Handle) (p : Ports), s.fault = none → s.stack = a :: rest →
    a.st = .throwing → a.exc = some e →
    (∀ t, a.findHandler e s.ports = (some t, p) →
      (0 ≤ t → t ≤ a.method.len → step s = becomesAt s rest { a with pc := t.toNat, st := .run } p) ∧
      (t < 0 ∨ a.method.len < t →
        step s = faultsAt s (.pcRange t) p)) ∧
    (∀ b below call, a.findHandler e s.ports = (none, p) → rest = b :: below → b.inv = .callInterpreted call →
      step s = .next { s with stack := { b with exc := some e, st := .throwing, inv := .idle } :: below, ports := p })

/-- The end of a chain the host started (R182, R568, R631). With no activation below, the host receives the result, or
the exception as its exception-raised state. With an outstanding host call below (R705), the host has received it inside
that call: after an exception the call fails with it and X8 is raised at the invoke's pc0; otherwise the call goes on
and is answered, or re-enters the engine again, which may fault. That this ends the invoke's step in the same step as
the chain's last, so that the invoke takes no step of its own in between (R563, R721), is the model's reading (entry
14). -/
def Obligations.ChainEnds : Prop :=
  (∀ (s : State) (a : Activation), s.fault = none → s.stack = [a] →
    (a.st = .finished →
      step s = .next { s with stack := [], ports := { s.ports with delivered := some (.returned a.ret) } }) ∧
    (∀ e p, a.st = .throwing → a.exc = some e → a.findHandler e s.ports = (none, p) →
      step s = .next { s with
        stack := [],
        ports := { p with hostExc := some e, delivered := some (.raised e), issued := .throwHandle e :: p.issued } })) ∧
  (∀ (s : State) (a b : Activation) (below : List Activation) (call : StagedCall) (calls : List StagedCall),
    s.fault = none → s.stack = a :: b :: below → (∀ c, b.inv ≠ .callInterpreted c) → s.ports.calls = call :: calls →
    (a.st = .finished →
      let told := { s.ports with delivered := some (.returned a.ret), calls := calls }
      (∀ bits p, callAnswer told = (.returns bits, p) →
        step s = becomesAt s below
          { b.putResult (hostResult call.ret bits) with st := .run, inv := .idle, pc := b.pc + 3 } p) ∧
      (∀ e p, callAnswer told = (.fails e, p) → step s = raises s b below b.pc e p) ∧
      (∀ entry c p p', callAnswer told = (.reenters entry, p) →
        startChain s.params.maxDepth (below.length + 1) entry p = (.ok c, p') →
        step s = .next { s with
          stack := c :: { b with st := .run, inv := .idle } :: below, ports := { p' with calls := call :: p'.calls } }) ∧
      (∀ entry f p p', callAnswer told = (.reenters entry, p) →
        startChain s.params.maxDepth (below.length + 1) entry p = (.error f, p') →
        step s = faultsAt { s with stack := b :: below } f p')) ∧
    (∀ e p, a.st = .throwing → a.exc = some e → a.findHandler e s.ports = (none, p) →
      step s = raises s b below b.pc e { p with
        hostExc := none, delivered := some (.raised e), calls := calls,
        issued := .exceptionClear :: .exceptionOccurred :: .throwHandle e :: p.issued }))

/-! ### The unwinder (spec/60_exceptions.md) -/

/-- Range selection (R622): the range chosen is in the table, covers p, has the largest start of those that do, and is the
first of that start; none is chosen exactly when none covers p. Only the chosen range's handler list is searched, and with
none chosen there is no handler. -/
def Obligations.RangeSelection : Prop :=
  ∀ (p : Nat) (tries : List TryRange),
    (selectRange p none tries = none ↔ ∀ r ∈ tries, ¬(r.start ≤ p ∧ p < r.start + r.length)) ∧
    (∀ r, selectRange p none tries = some r →
      ∃ before after, tries = before ++ r :: after ∧ r.start ≤ p ∧ p < r.start + r.length ∧
        (∀ q ∈ before, q.start ≤ p → p < q.start + q.length → q.start < r.start) ∧
        (∀ q ∈ after, q.start ≤ p → p < q.start + q.length → q.start ≤ r.start)) ∧
    (∀ (a : Activation) (e : Handle) (q : Ports), a.pc = p → a.method.tries = tries →
      (selectRange p none tries = none → a.findHandler e q = (none, q)) ∧
      (∀ r, selectRange p none tries = some r → a.findHandler e q = r.handlers.search e q))

/-- Handler search (R623): in table order, a type that does not resolve or of which the exception is no instance is passed
over, the first match wins, and the catch-all is taken when no pair matches. -/
def Obligations.HandlerSearch : Prop :=
  ∀ (e c : Handle) (ti : Nat) (t : Int) (l : List (Nat × Int)) (p p1 p2 : Ports) (x : Handle),
    matchTyped e [] p = (none, p) ∧
    (resolveClass ti p = (.fails x, p1) → matchTyped e ((ti, t) :: l) p = matchTyped e l p1) ∧
    (resolveClass ti p = (.ok c, p1) → isInstanceOf e c p1 = (false, p2) →
      matchTyped e ((ti, t) :: l) p = matchTyped e l p2) ∧
    (resolveClass ti p = (.ok c, p1) → isInstanceOf e c p1 = (true, p2) →
      matchTyped e ((ti, t) :: l) p = (some t, p2)) ∧
    (∀ h : HandlerList, h.pairs.length = h.count.natAbs → (h.catchAll.isSome ↔ h.count ≤ 0) →
      (∀ u, matchTyped e h.pairs p = (some u, p1) → h.search e p = (some u, p1)) ∧
      (matchTyped e h.pairs p = (none, p1) → h.search e p = (h.catchAll, p1)))

/-! ### Every instruction -/

/-- No instruction touches another activation, the code, the parameters of the machine or the waiting entry calls (R11, R31,
R101, R180, R569): after any instruction the activations below are the same and the top one, under at most one new one,
runs the same method. No step touches an activation below the one that is second from the top, and the second itself changes
only in the step that pops the top one, because it is FINISHED or THROWING with no handler; then it keeps its registers and
its method. In every other step the top one stays in its place above it. -/
def Obligations.CallerIsolation : Prop :=
  (∀ (i : Instr) (s t : State) (a : Activation) (rest : List Activation), s.stack = a :: rest → exec i s = .next t →
    (∃ b, b.method = a.method ∧ b.regs.length = a.regs.length ∧ (t.stack = b :: rest ∨ ∃ c, t.stack = c :: b :: rest)) ∧
    t.params = s.params ∧ t.ports.entries = s.ports.entries) ∧
  (∀ (s t : State) (a b : Activation) (below : List Activation), s.stack = a :: b :: below → step s = .next t →
    let popped := a.st = .finished ∨ a.st = .throwing ∧ ∃ e p, a.exc = some e ∧ a.findHandler e s.ports = (none, p)
    (¬popped → ∃ a', a'.method = a.method ∧ (t.stack = a' :: b :: below ∨ ∃ c, t.stack = c :: a' :: b :: below)) ∧
    (popped → ∃ b', b'.regs = b.regs ∧ b'.method = b.method ∧
      (t.stack = b' :: below ∨ ∃ c, t.stack = c :: b' :: below)))

/-- The destination frame (R180): an instruction that gives a next state writes no register but those `dests` names, RV
only if it is an invoke or filled-new-array, and EXC only if it leaves its activation THROWING or is move-exception, which
alone empties it. -/
def Obligations.DestinationFrame : Prop :=
  ∀ (i : Instr) (s t : State) (a b : Activation) (rest above : List Activation), s.stack = a :: rest →
    exec i s = .next t → t.stack = above ++ b :: rest →
    (∀ r, r ∉ i.dests → b.regs[r]? = a.regs[r]?) ∧
    (i.writesRV = false → b.rv = a.rv ∧ b.rvw = a.rvw) ∧
    (b.exc = a.exc ∨ b.st = .throwing ∨ ∃ d, i = .moveException d) ∧
    (b.exc = none → a.exc = none ∨ ∃ d, i = .moveException d)

/-- Exceptions are precise (R181, R602, R605): an instruction that leaves its activation THROWING has written no register
and no RV, pushed nothing, and moved pc only if it is monitor-exit, to pc0 + 1; EXC holds the exception, and the host's
exception-raised state is clear: cleared by the transaction that failed or made the exception (R604), and as it was for a
throw of an object. -/
def Obligations.RaisesArePrecise : Prop :=
  ∀ (i : Instr) (s t : State) (a b : Activation) (rest above : List Activation), s.stack = a :: rest →
    a.st ≠ .throwing → exec i s = .next t → t.stack = above ++ b :: rest → b.st = .throwing →
    above = [] ∧ t.fault = s.fault ∧
    (s.ports.hostExc = none ∨ (∀ r, i ≠ .throwObj r) → t.ports.hostExc = none) ∧
    (∃ e, b = { a with pc := b.pc, exc := some e, st := .throwing, inv := .idle }) ∧
    (b.pc = a.pc ∨ b.pc = a.pc + 1 ∧ ∃ r, i = .monitorExit r)

/-- Faults write nothing (R611): an instruction that sets FAULT leaves pc, registers, ST and EXC as they were, but for pc + 1
of monitor-exit, and tells the host. That STACK keeps its activations and INV is as before is the model's reading (entries 34
and 27). -/
def Obligations.FaultsWriteNothing : Prop :=
  ∀ (i : Instr) (s t : State) (a : Activation) (rest : List Activation) (f : EngineFault), s.stack = a :: rest →
    s.fault = none → exec i s = .next t → t.fault = some f →
    t.ports.delivered = some (.aborted f) ∧
    (t.stack = s.stack ∨ t.stack = { a with pc := a.pc + 1 } :: rest ∧ ∃ r, i = .monitorExit r)

/-- The check after every transaction (R604): in the log of an instruction and of a step each transaction is followed at once
by the query of the host's exception-raised state, and a clearing comes only after that query. A host call is checked when
it is answered: at once, unless the host first re-enters the engine inside it (the model's reading, entries 14 and 39), and
then in the step that answers it. Only the exception that ends the run is left set in the host (R631): a state that was
clear is clear after an instruction, and after a step unless STACK is then empty. -/
def Obligations.ExceptionChecks : Prop :=
  let cleared := fun (new : List Request) (k : Nat) (r : Request) =>
    r = .exceptionClear → new[k + 1]? = some .exceptionOccurred
  let asked := fun (new : List Request) (k : Nat) => 0 < k ∧ new[k - 1]? = some .exceptionOccurred
  let checks := fun r : Request => r = .exceptionOccurred ∨ r = .exceptionClear
  let calls := fun (s t : State) (new : List Request) (k : Nat) => asked new k ∨
    (t.ports.calls.length = s.ports.calls.length + 1 ∨ ∃ f, t.fault = some f) ∧
      0 < k ∧ ∃ m, new[k - 1]? = some (.methodInfo m)
  (∀ (i : Instr) (s t : State) (a : Activation) (rest : List Activation), s.stack = a :: rest → exec i s = .next t →
    (s.ports.hostExc = none → t.ports.hostExc = none) ∧
    ∃ new, t.ports.issued = new ++ s.ports.issued ∧ ∀ (k : Nat) (r : Request), new[k]? = some r →
      cleared new k r ∧
      (∀ kind m recv args sh, r = .call kind m recv args sh → calls s t new k) ∧
      (¬checks r → (∀ kind m recv args sh, r ≠ .call kind m recv args sh) → asked new k)) ∧
  (∀ s t : State, step s = .next t →
    (s.ports.hostExc = none → t.stack ≠ [] → t.ports.hostExc = none) ∧
    ∃ new, t.ports.issued = new ++ s.ports.issued ∧
      (t.ports.calls.length < s.ports.calls.length → ∃ r, new.head? = some r ∧ checks r) ∧
      ∀ (k : Nat) (r : Request), new[k]? = some r →
        cleared new k r ∧
        (∀ kind m recv args sh, r = .call kind m recv args sh → calls s t new k) ∧
        (∀ e, r = .throwHandle e → asked new k ∨ k = 0 ∧ t.stack = []) ∧
        (¬checks r → (∀ kind m recv args sh, r ≠ .call kind m recv args sh) → (∀ e, r ≠ .throwHandle e) → asked new k))
end

