-- ==== Sys2Proof/Laws/Fields.lean ====
section
/-! SUPPORT. The fields of a code unit read back what the encoder put there (spec/30_encoding.md R120, R135 to R158). -/

namespace Sys2Proof.Laws

/-- The low half of an append. -/
theorem extractLsb'_append_low {m n : Nat} (x : BitVec m) (y : BitVec n) : (x ++ y).extractLsb' 0 n = y := by
  apply BitVec.eq_of_getLsbD_eq
  intro i h
  simp only [BitVec.getLsbD_extractLsb', BitVec.getLsbD_append]
  simp [h]

/-- A field of the high half of an append. -/
theorem extractLsb'_append_high {m n : Nat} (k w : Nat) (x : BitVec m) (y : BitVec n) :
    (x ++ y).extractLsb' (n + k) w = x.extractLsb' k w := by
  apply BitVec.eq_of_getLsbD_eq
  intro i _
  have h1 : ¬n + k + i < n := by omega
  have h2 : n + k + i - n = k + i := by omega
  simp only [BitVec.getLsbD_extractLsb', BitVec.getLsbD_append]
  simp [h1, h2]

@[simp] theorem lowByte_unit8 (hi lo : BitVec 8) : lowByte (unit8 hi lo) = lo := extractLsb'_append_low hi lo

@[simp] theorem highByte_unit8 (hi lo : BitVec 8) : highByte (unit8 hi lo) = hi :=
  (extractLsb'_append_high 0 8 hi lo).trans (BitVec.extractLsb'_eq_self ..)

@[simp] theorem lowByte_unit4 (b a : BitVec 4) (op : BitVec 8) : lowByte (unit4 b a op) = op :=
  extractLsb'_append_low (b ++ a) op

@[simp] theorem nibble2_unit4 (b a : BitVec 4) (op : BitVec 8) : nibble 2 (unit4 b a op) = a :=
  (extractLsb'_append_high 0 4 (b ++ a) op).trans (extractLsb'_append_low b a)

@[simp] theorem nibble3_unit4 (b a : BitVec 4) (op : BitVec 8) : nibble 3 (unit4 b a op) = b :=
  ((extractLsb'_append_high 4 4 (b ++ a) op).trans (extractLsb'_append_high 0 4 b a)).trans
    (BitVec.extractLsb'_eq_self ..)

end Sys2Proof.Laws
end

