-- ==== Sys2Proof/Laws/Memory.lean ====
section
/-! SUPPORT. The instruction stream: every memory operation keeps the canonical form, a read after a write, and what a
stream made of code units reads as. -/

namespace Sys2Proof.Machine

/-! ### The canonical form -/

theorem Memory.wfFrom_mono {lo lo' : Nat} (h : lo' ≤ lo) {cs : List Host.Cell} (w : Memory.wfFrom lo cs = true) :
    Memory.wfFrom lo' cs = true := by
  cases cs with
  | nil => rfl
  | cons c cs =>
    obtain ⟨a, b⟩ := c
    simp only [Memory.wfFrom, Bool.and_eq_true, decide_eq_true_eq] at w ⊢
    exact ⟨⟨le_trans h w.1.1, w.1.2⟩, w.2⟩

theorem Memory.wfFrom_writeCells (cs : List Host.Cell) :
    ∀ {lo k : Nat} (b : Byte), lo ≤ k → Memory.wfFrom lo cs = true →
      Memory.wfFrom lo (Memory.writeCells cs k b) = true := by
  induction cs with
  | nil =>
    intro lo k b h _
    unfold Memory.writeCells
    split <;> simp_all [Memory.wfFrom]
  | cons c cs ih =>
    obtain ⟨a, v⟩ := c
    intro lo k b h w
    have w' := w
    simp only [Memory.wfFrom, Bool.and_eq_true, decide_eq_true_eq] at w'
    obtain ⟨⟨hlo, hv⟩, hcs⟩ := w'
    unfold Memory.writeCells
    split
    · rename_i hka
      split
      · exact w
      · rename_i hb
        simp only [Memory.wfFrom, Bool.and_eq_true, decide_eq_true_eq]
        exact ⟨⟨h, hb⟩, ⟨⟨hka, hv⟩, hcs⟩⟩
    · split
      · rename_i hka
        subst hka
        split
        · exact Memory.wfFrom_mono (by omega) hcs
        · rename_i hb
          simp only [Memory.wfFrom, Bool.and_eq_true, decide_eq_true_eq]
          exact ⟨⟨h, hb⟩, hcs⟩
      · simp only [Memory.wfFrom, Bool.and_eq_true, decide_eq_true_eq]
        exact ⟨⟨hlo, hv⟩, ih b (by omega) hcs⟩

/-- Storing a byte keeps the canonical form. -/
theorem Memory.wf_write {m : Memory} (k : Nat) (b : Byte) (h : m.wf = true) : (m.write k b).wf = true :=
  Memory.wfFrom_writeCells m.cells b (Nat.zero_le k) h

/-- Storing bytes keeps the canonical form. -/
theorem Memory.wf_writeAll (bs : List Byte) : ∀ {m : Memory} (k : Nat), m.wf = true → (m.writeAll k bs).wf = true := by
  induction bs with
  | nil => intro m k h; exact h
  | cons b bs ih => intro m k h; exact ih (k + 1) (Memory.wf_write k b h)

theorem Memory.wfFrom_cellsFrom (bs : List Byte) : ∀ k : Nat, Memory.wfFrom k (Memory.cellsFrom k bs) = true := by
  induction bs with
  | nil => intro k; rfl
  | cons b bs ih =>
    intro k
    unfold Memory.cellsFrom
    split
    · exact Memory.wfFrom_mono (Nat.le_succ k) (ih (k + 1))
    · rename_i hb
      simp only [Memory.wfFrom, Bool.and_eq_true, decide_eq_true_eq]
      exact ⟨⟨le_refl k, hb⟩, ih (k + 1)⟩

/-- The stream of a method is in canonical form. -/
theorem Memory.wf_ofUnits (units : List CodeUnit) : (Memory.ofUnits units).wf = true :=
  Memory.wfFrom_cellsFrom (bytesOfUnits units) 0

/-- The empty memory is in canonical form. -/
theorem Memory.wf_empty : Memory.wf { cells := [] } = true := rfl

/-! ### Bounds -/

theorem Memory.cellsFrom_below (bs : List Byte) :
    ∀ k : Nat, ∀ c ∈ Memory.cellsFrom k bs, c.1 < k + bs.length := by
  induction bs with
  | nil => intro k c h; simp [Memory.cellsFrom] at h
  | cons b bs ih =>
    intro k c h
    unfold Memory.cellsFrom at h
    split at h
    · have := ih (k + 1) c h
      simp only [List.length_cons]; omega
    · rcases List.mem_cons.mp h with h | h
      · subst h; simp
      · have := ih (k + 1) c h
        simp only [List.length_cons]; omega

theorem bytesOfUnits_length (units : List CodeUnit) : (bytesOfUnits units).length = 2 * units.length := by
  induction units with
  | nil => rfl
  | cons u us ih => simp [bytesOfUnits, ih]; omega

/-- The stream of a method lists no byte past its end. -/
theorem Memory.below_ofUnits (units : List CodeUnit) : (Memory.ofUnits units).below (2 * units.length) = true := by
  simp only [Memory.below, List.all_eq_true, decide_eq_true_eq]
  intro c h
  have := Memory.cellsFrom_below _ 0 c h
  rw [bytesOfUnits_length] at this
  omega

/-! ### Reads -/

theorem Memory.byteIn_of_wfFrom {cs : List Host.Cell} :
    ∀ {lo k : Nat}, Memory.wfFrom lo cs = true → k < lo → Memory.byteIn cs k = Memory.unlisted := by
  induction cs with
  | nil => intro lo k _ _; rfl
  | cons c cs ih =>
    obtain ⟨a, b⟩ := c
    intro lo k w h
    simp only [Memory.wfFrom, Bool.and_eq_true, decide_eq_true_eq] at w
    have ha : a ≠ k := by omega
    simp only [Memory.byteIn, if_neg ha]
    exact ih w.2 (by omega)

theorem Memory.byteIn_writeCells (cs : List Host.Cell) :
    ∀ {lo : Nat} (k j : Nat) (b : Byte), Memory.wfFrom lo cs = true →
      Memory.byteIn (Memory.writeCells cs k b) j = if j = k then b else Memory.byteIn cs j := by
  induction cs with
  | nil =>
    intro lo k j b _
    unfold Memory.writeCells
    by_cases hb : b = Memory.unlisted
    · by_cases hj : j = k <;> simp_all [Memory.byteIn]
    · by_cases hj : j = k
      · simp [Memory.byteIn, hb, hj]
      · have : ¬k = j := fun h => hj h.symm
        simp [Memory.byteIn, hb, hj, this]
  | cons c cs ih =>
    obtain ⟨a, v⟩ := c
    intro lo k j b w
    have w' := w
    simp only [Memory.wfFrom, Bool.and_eq_true, decide_eq_true_eq] at w'
    obtain ⟨⟨hlo, hv⟩, hcs⟩ := w'
    unfold Memory.writeCells
    by_cases hka : k < a
    · rw [if_pos hka]
      by_cases hb : b = Memory.unlisted
      · rw [if_pos hb]
        by_cases hj : j = k
        · subst hj
          have ha : a ≠ j := by omega
          simp only [Memory.byteIn, if_neg ha, if_true, hb]
          exact Memory.byteIn_of_wfFrom hcs (by omega)
        · rw [if_neg hj]
      · rw [if_neg hb]
        by_cases hj : j = k
        · simp [Memory.byteIn, hj]
        · have : ¬k = j := fun h => hj h.symm
          simp [Memory.byteIn, hj, this]
    · rw [if_neg hka]
      by_cases he : k = a
      · subst he
        rw [if_pos rfl]
        by_cases hb : b = Memory.unlisted
        · rw [if_pos hb]
          by_cases hj : j = k
          · subst hj
            simp only [if_true, hb]
            exact Memory.byteIn_of_wfFrom hcs (by omega)
          · have : ¬k = j := fun h => hj h.symm
            simp [Memory.byteIn, hj, this]
        · rw [if_neg hb]
          by_cases hj : j = k
          · simp [Memory.byteIn, hj]
          · have : ¬k = j := fun h => hj h.symm
            simp [Memory.byteIn, hj, this]
      · rw [if_neg he]
        by_cases hj : a = j
        · have : ¬j = k := by omega
          simp [Memory.byteIn, hj, this]
        · simp only [Memory.byteIn, if_neg hj]
          exact ih k j b hcs

/-- A read after a write: the byte written at its offset, and every other byte as before. -/
theorem Memory.byte_write {m : Memory} (h : m.wf = true) (k j : Nat) (b : Byte) :
    (m.write k b).byte j = if j = k then b else m.byte j :=
  Memory.byteIn_writeCells m.cells k j b h

theorem Memory.byteIn_cellsFrom (bs : List Byte) :
    ∀ k j : Nat, Memory.byteIn (Memory.cellsFrom k bs) (k + j) = bs.getD j Memory.unlisted := by
  induction bs with
  | nil => intro k j; rfl
  | cons b bs ih =>
    intro k j
    unfold Memory.cellsFrom
    by_cases hb : b = Memory.unlisted
    · rw [if_pos hb]
      cases j with
      | zero =>
        simp only [Nat.add_zero, List.getD_cons_zero]
        rw [hb]
        exact Memory.byteIn_of_wfFrom (Memory.wfFrom_cellsFrom bs (k + 1)) (by omega)
      | succ j =>
        have := ih (k + 1) j
        rw [List.getD_cons_succ, ← this]
        congr 1; omega
    · rw [if_neg hb]
      cases j with
      | zero => simp [Memory.byteIn]
      | succ j =>
        have := ih (k + 1) j
        have hk : ¬k = k + (j + 1) := by omega
        simp only [Memory.byteIn, if_neg hk, List.getD_cons_succ]
        rw [← this]
        congr 1; omega

theorem bytesOfUnits_getD (units : List CodeUnit) :
    ∀ k : Nat, (bytesOfUnits units).getD (2 * k) 0#8 = lowByte (units.getD k 0#16) ∧
      (bytesOfUnits units).getD (2 * k + 1) 0#8 = highByte (units.getD k 0#16) := by
  induction units with
  | nil => intro k; simp [bytesOfUnits, lowByte, highByte]
  | cons u us ih =>
    intro k
    cases k with
    | zero => simp [bytesOfUnits]
    | succ k =>
      have := ih k
      simpa [bytesOfUnits, Nat.mul_add] using this

theorem highByte_append_lowByte (u : CodeUnit) : highByte u ++ lowByte u = u := by
  apply BitVec.eq_of_getLsbD_eq
  intro i hi
  simp only [highByte, lowByte, BitVec.getLsbD_append, BitVec.getLsbD_extractLsb']
  by_cases h : i < 8
  · simp [h]
  · have h2 : i - 8 < 8 := by omega
    have h3 : 8 + (i - 8) = i := by omega
    simp [h, h2, h3]

/-- The code units of a method read as the collaborator supplied them (R81, R82). -/
theorem MethodInfo.toMethod_unit (m : MethodInfo) (sh : Shorty) (k : Nat) (h : k < m.units.length) :
    (m.toMethod sh).unit k = .ok m.units[k] := by
  have hb := bytesOfUnits_getD m.units k
  have h1 := Memory.byteIn_cellsFrom (bytesOfUnits m.units) 0 (2 * k)
  have h2 := Memory.byteIn_cellsFrom (bytesOfUnits m.units) 0 (2 * k + 1)
  simp only [Nat.zero_add, Memory.unlisted] at h1 h2
  have hk : (0 : Int) ≤ (k : Int) ∧ (k : Int) < ((m.toMethod sh).len : Int) := by
    refine ⟨by omega, ?_⟩
    change (k : Int) < (m.units.length : Int)
    omega
  unfold Method.unit
  rw [if_pos hk]
  change Except.ok (Memory.byteIn (Memory.cellsFrom 0 (bytesOfUnits m.units)) (2 * (k : Int).toNat + 1) ++
    Memory.byteIn (Memory.cellsFrom 0 (bytesOfUnits m.units)) (2 * (k : Int).toNat)) = _
  rw [Int.toNat_natCast, h1, h2, hb.1, hb.2, highByte_append_lowByte]
  simp [List.getD, h]

end Sys2Proof.Machine
end

