-- ==== Sys2Proof/Laws/State.lean ====
section
/-! SUPPORT. One lemma per field per update of the state's records, each true by definition, so that no proof unfolds a
record update. -/

namespace Sys2Proof.Machine

/-! #### `Activation.putSlot` -/

@[simp] theorem Activation.putSlot_regs (a : Activation) (i : Nat) (w : Word64) : (a.putSlot i w).regs = a.regs.set i { word := w, written := true } := rfl
@[simp] theorem Activation.putSlot_pc (a : Activation) (i : Nat) (w : Word64) : (a.putSlot i w).pc = a.pc := rfl
@[simp] theorem Activation.putSlot_st (a : Activation) (i : Nat) (w : Word64) : (a.putSlot i w).st = a.st := rfl
@[simp] theorem Activation.putSlot_exc (a : Activation) (i : Nat) (w : Word64) : (a.putSlot i w).exc = a.exc := rfl
@[simp] theorem Activation.putSlot_rv (a : Activation) (i : Nat) (w : Word64) : (a.putSlot i w).rv = a.rv := rfl
@[simp] theorem Activation.putSlot_rvw (a : Activation) (i : Nat) (w : Word64) : (a.putSlot i w).rvw = a.rvw := rfl
@[simp] theorem Activation.putSlot_inv (a : Activation) (i : Nat) (w : Word64) : (a.putSlot i w).inv = a.inv := rfl
@[simp] theorem Activation.putSlot_ret (a : Activation) (i : Nat) (w : Word64) : (a.putSlot i w).ret = a.ret := rfl
@[simp] theorem Activation.putSlot_method (a : Activation) (i : Nat) (w : Word64) : (a.putSlot i w).method = a.method := rfl

/-! #### `Activation.putI32` -/

@[simp] theorem Activation.putI32_regs (a : Activation) (i : Nat) (v : Word32) : (a.putI32 i v).regs = a.regs.set i { word := v.signExtend 64, written := true } := rfl
@[simp] theorem Activation.putI32_pc (a : Activation) (i : Nat) (v : Word32) : (a.putI32 i v).pc = a.pc := rfl
@[simp] theorem Activation.putI32_st (a : Activation) (i : Nat) (v : Word32) : (a.putI32 i v).st = a.st := rfl
@[simp] theorem Activation.putI32_exc (a : Activation) (i : Nat) (v : Word32) : (a.putI32 i v).exc = a.exc := rfl
@[simp] theorem Activation.putI32_rv (a : Activation) (i : Nat) (v : Word32) : (a.putI32 i v).rv = a.rv := rfl
@[simp] theorem Activation.putI32_rvw (a : Activation) (i : Nat) (v : Word32) : (a.putI32 i v).rvw = a.rvw := rfl
@[simp] theorem Activation.putI32_inv (a : Activation) (i : Nat) (v : Word32) : (a.putI32 i v).inv = a.inv := rfl
@[simp] theorem Activation.putI32_ret (a : Activation) (i : Nat) (v : Word32) : (a.putI32 i v).ret = a.ret := rfl
@[simp] theorem Activation.putI32_method (a : Activation) (i : Nat) (v : Word32) : (a.putI32 i v).method = a.method := rfl

/-! #### `Activation.putF32` -/

@[simp] theorem Activation.putF32_regs (a : Activation) (i : Nat) (v : Word32) : (a.putF32 i v).regs = a.regs.set i { word := v.setWidth 64, written := true } := rfl
@[simp] theorem Activation.putF32_pc (a : Activation) (i : Nat) (v : Word32) : (a.putF32 i v).pc = a.pc := rfl
@[simp] theorem Activation.putF32_st (a : Activation) (i : Nat) (v : Word32) : (a.putF32 i v).st = a.st := rfl
@[simp] theorem Activation.putF32_exc (a : Activation) (i : Nat) (v : Word32) : (a.putF32 i v).exc = a.exc := rfl
@[simp] theorem Activation.putF32_rv (a : Activation) (i : Nat) (v : Word32) : (a.putF32 i v).rv = a.rv := rfl
@[simp] theorem Activation.putF32_rvw (a : Activation) (i : Nat) (v : Word32) : (a.putF32 i v).rvw = a.rvw := rfl
@[simp] theorem Activation.putF32_inv (a : Activation) (i : Nat) (v : Word32) : (a.putF32 i v).inv = a.inv := rfl
@[simp] theorem Activation.putF32_ret (a : Activation) (i : Nat) (v : Word32) : (a.putF32 i v).ret = a.ret := rfl
@[simp] theorem Activation.putF32_method (a : Activation) (i : Nat) (v : Word32) : (a.putF32 i v).method = a.method := rfl

/-! #### `Activation.putI64` -/

@[simp] theorem Activation.putI64_regs (a : Activation) (i : Nat) (v : Word64) : (a.putI64 i v).regs = (a.regs.set i { word := (v.extractLsb' 0 32).setWidth 64, written := true }).set (i + 1)
      { word := (v.extractLsb' 32 32).setWidth 64, written := true } := rfl
@[simp] theorem Activation.putI64_pc (a : Activation) (i : Nat) (v : Word64) : (a.putI64 i v).pc = a.pc := rfl
@[simp] theorem Activation.putI64_st (a : Activation) (i : Nat) (v : Word64) : (a.putI64 i v).st = a.st := rfl
@[simp] theorem Activation.putI64_exc (a : Activation) (i : Nat) (v : Word64) : (a.putI64 i v).exc = a.exc := rfl
@[simp] theorem Activation.putI64_rv (a : Activation) (i : Nat) (v : Word64) : (a.putI64 i v).rv = a.rv := rfl
@[simp] theorem Activation.putI64_rvw (a : Activation) (i : Nat) (v : Word64) : (a.putI64 i v).rvw = a.rvw := rfl
@[simp] theorem Activation.putI64_inv (a : Activation) (i : Nat) (v : Word64) : (a.putI64 i v).inv = a.inv := rfl
@[simp] theorem Activation.putI64_ret (a : Activation) (i : Nat) (v : Word64) : (a.putI64 i v).ret = a.ret := rfl
@[simp] theorem Activation.putI64_method (a : Activation) (i : Nat) (v : Word64) : (a.putI64 i v).method = a.method := rfl

/-! #### `Activation.advance` -/

@[simp] theorem Activation.advance_regs (a : Activation) (n : Nat) : (a.advance n).regs = a.regs := rfl
@[simp] theorem Activation.advance_pc (a : Activation) (n : Nat) : (a.advance n).pc = a.pc + n := rfl
@[simp] theorem Activation.advance_st (a : Activation) (n : Nat) : (a.advance n).st = a.st := rfl
@[simp] theorem Activation.advance_exc (a : Activation) (n : Nat) : (a.advance n).exc = a.exc := rfl
@[simp] theorem Activation.advance_rv (a : Activation) (n : Nat) : (a.advance n).rv = a.rv := rfl
@[simp] theorem Activation.advance_rvw (a : Activation) (n : Nat) : (a.advance n).rvw = a.rvw := rfl
@[simp] theorem Activation.advance_inv (a : Activation) (n : Nat) : (a.advance n).inv = a.inv := rfl
@[simp] theorem Activation.advance_ret (a : Activation) (n : Nat) : (a.advance n).ret = a.ret := rfl
@[simp] theorem Activation.advance_method (a : Activation) (n : Nat) : (a.advance n).method = a.method := rfl

/-! #### `Activation.takeException` -/

@[simp] theorem Activation.takeException_regs (a : Activation) (e : Handle) : (a.takeException e).regs = a.regs := rfl
@[simp] theorem Activation.takeException_pc (a : Activation) (e : Handle) : (a.takeException e).pc = a.pc := rfl
@[simp] theorem Activation.takeException_st (a : Activation) (e : Handle) : (a.takeException e).st = .throwing := rfl
@[simp] theorem Activation.takeException_exc (a : Activation) (e : Handle) : (a.takeException e).exc = some e := rfl
@[simp] theorem Activation.takeException_rv (a : Activation) (e : Handle) : (a.takeException e).rv = a.rv := rfl
@[simp] theorem Activation.takeException_rvw (a : Activation) (e : Handle) : (a.takeException e).rvw = a.rvw := rfl
@[simp] theorem Activation.takeException_inv (a : Activation) (e : Handle) : (a.takeException e).inv = .idle := rfl
@[simp] theorem Activation.takeException_ret (a : Activation) (e : Handle) : (a.takeException e).ret = a.ret := rfl
@[simp] theorem Activation.takeException_method (a : Activation) (e : Handle) : (a.takeException e).method = a.method := rfl

/-! #### `Activation.putResult` and `Activation.takeResult` -/

@[simp] theorem Activation.putResult_regs (a : Activation) (r : ReturnValue) : (a.putResult r).regs = a.regs := by
  cases r <;> rfl
@[simp] theorem Activation.putResult_pc (a : Activation) (r : ReturnValue) : (a.putResult r).pc = a.pc := by
  cases r <;> rfl
@[simp] theorem Activation.putResult_st (a : Activation) (r : ReturnValue) : (a.putResult r).st = a.st := by
  cases r <;> rfl
@[simp] theorem Activation.putResult_exc (a : Activation) (r : ReturnValue) : (a.putResult r).exc = a.exc := by
  cases r <;> rfl
@[simp] theorem Activation.putResult_inv (a : Activation) (r : ReturnValue) : (a.putResult r).inv = a.inv := by
  cases r <;> rfl
@[simp] theorem Activation.putResult_ret (a : Activation) (r : ReturnValue) : (a.putResult r).ret = a.ret := by
  cases r <;> rfl
@[simp] theorem Activation.putResult_method (a : Activation) (r : ReturnValue) : (a.putResult r).method = a.method := by
  cases r <;> rfl
@[simp] theorem Activation.putResult_void_rv (a : Activation) : (a.putResult .void).rv = a.rv := rfl
@[simp] theorem Activation.putResult_void_rvw (a : Activation) : (a.putResult .void).rvw = false := rfl
@[simp] theorem Activation.putResult_value_rv (a : Activation) (v : TypedValue) :
    (a.putResult (.value v)).rv = v.rvWord := rfl
@[simp] theorem Activation.putResult_value_rvw (a : Activation) (v : TypedValue) :
    (a.putResult (.value v)).rvw = true := rfl

@[simp] theorem Activation.takeResult_pc (a : Activation) (r : ReturnValue) : (a.takeResult r).pc = a.pc + 3 := rfl
@[simp] theorem Activation.takeResult_st (a : Activation) (r : ReturnValue) : (a.takeResult r).st = .run := rfl
@[simp] theorem Activation.takeResult_inv (a : Activation) (r : ReturnValue) : (a.takeResult r).inv = .idle := rfl
@[simp] theorem Activation.takeResult_rv (a : Activation) (r : ReturnValue) : (a.takeResult r).rv = (a.putResult r).rv := rfl
@[simp] theorem Activation.takeResult_rvw (a : Activation) (r : ReturnValue) : (a.takeResult r).rvw = (a.putResult r).rvw := rfl
@[simp] theorem Activation.takeResult_regs (a : Activation) (r : ReturnValue) : (a.takeResult r).regs = a.regs := by
  cases r <;> rfl
@[simp] theorem Activation.takeResult_exc (a : Activation) (r : ReturnValue) : (a.takeResult r).exc = a.exc := by
  cases r <;> rfl
@[simp] theorem Activation.takeResult_ret (a : Activation) (r : ReturnValue) : (a.takeResult r).ret = a.ret := by
  cases r <;> rfl
@[simp] theorem Activation.takeResult_method (a : Activation) (r : ReturnValue) : (a.takeResult r).method = a.method := by
  cases r <;> rfl

/-! #### `Activation.fresh` -/

@[simp] theorem Activation.fresh_regs (m : Method) : (Activation.fresh m).regs = List.replicate m.nreg { word := 0#64, written := false } := rfl
@[simp] theorem Activation.fresh_pc (m : Method) : (Activation.fresh m).pc = 0 := rfl
@[simp] theorem Activation.fresh_st (m : Method) : (Activation.fresh m).st = .run := rfl
@[simp] theorem Activation.fresh_exc (m : Method) : (Activation.fresh m).exc = none := rfl
@[simp] theorem Activation.fresh_rvw (m : Method) : (Activation.fresh m).rvw = false := rfl
@[simp] theorem Activation.fresh_inv (m : Method) : (Activation.fresh m).inv = .idle := rfl
@[simp] theorem Activation.fresh_ret (m : Method) : (Activation.fresh m).ret = .void := rfl
@[simp] theorem Activation.fresh_method (m : Method) : (Activation.fresh m).method = m := rfl

/-! #### `State.abort`, `Ctx.enter`, `State.reset` -/

@[simp] theorem State.abort_stack (s : State) (f : EngineFault) : (s.abort f).stack = s.stack := rfl
@[simp] theorem State.abort_fault (s : State) (f : EngineFault) : (s.abort f).fault = some f := rfl
@[simp] theorem State.abort_params (s : State) (f : EngineFault) : (s.abort f).params = s.params := rfl
@[simp] theorem State.abort_delivered (s : State) (f : EngineFault) :
    (s.abort f).ports.delivered = some (.aborted f) := rfl
@[simp] theorem State.abort_hostExc (s : State) (f : EngineFault) : (s.abort f).ports.hostExc = s.ports.hostExc := rfl
@[simp] theorem State.abort_entries (s : State) (f : EngineFault) : (s.abort f).ports.entries = s.ports.entries := rfl
@[simp] theorem State.abort_answers (s : State) (f : EngineFault) : (s.abort f).ports.answers = s.ports.answers := rfl
@[simp] theorem State.abort_issued (s : State) (f : EngineFault) : (s.abort f).ports.issued = s.ports.issued := rfl
@[simp] theorem State.abort_calls (s : State) (f : EngineFault) : (s.abort f).ports.calls = s.ports.calls := rfl
@[simp] theorem State.abort_draws (s : State) (f : EngineFault) : (s.abort f).ports.draws = s.ports.draws := rfl
@[simp] theorem Ctx.enter_top (s : State) (a : Activation) (rest : List Activation) :
    (Ctx.enter s a rest).top = a := rfl
@[simp] theorem Ctx.enter_callee (s : State) (a : Activation) (rest : List Activation) :
    (Ctx.enter s a rest).callee = none := rfl
@[simp] theorem Ctx.enter_depth (s : State) (a : Activation) (rest : List Activation) :
    (Ctx.enter s a rest).depth = rest.length + 1 := rfl
@[simp] theorem Ctx.enter_ports (s : State) (a : Activation) (rest : List Activation) :
    (Ctx.enter s a rest).ports = s.ports := rfl
@[simp] theorem Ctx.enter_params (s : State) (a : Activation) (rest : List Activation) :
    (Ctx.enter s a rest).params = s.params := rfl
@[simp] theorem State.reset_stack : State.reset.stack = [] := rfl
@[simp] theorem State.reset_fault : State.reset.fault = none := rfl
@[simp] theorem State.reset_params : State.reset.params = Config.params := rfl
@[simp] theorem State.reset_hostExc : State.reset.ports.hostExc = none := rfl
@[simp] theorem State.reset_entries : State.reset.ports.entries = [] := rfl
@[simp] theorem State.reset_calls : State.reset.ports.calls = [] := rfl

end Sys2Proof.Machine
end

