-- ==== Sys2Proof/Laws/Ops.lean ====
section
/-! SUPPORT. What each shared operation does, once: how a handler's parts compose, what a read, a write, a jump, a
transaction, a raise and a fault answer, and what the settled state is. -/

namespace Sys2Proof.Machine

/-! ### Composition -/

@[simp] theorem handler_bind {α β : Type} (x : Handler α) (f : α → Handler β) (c : Ctx) :
    (x >>= f) c = match x c with
      | .ok v c' => f v c'
      | .error e c' => .error e c' := by
  change EStateM.bind x f c = _
  unfold EStateM.bind
  cases x c <;> rfl

@[simp] theorem handler_pure {α : Type} (v : α) (c : Ctx) : (pure v : Handler α) c = .ok v c := rfl

@[simp] theorem handler_get (c : Ctx) : (get : Handler Ctx) c = .ok c c := rfl

@[simp] theorem handler_map {α β : Type} (f : α → β) (x : Handler α) (c : Ctx) :
    (f <$> x) c = match x c with
      | .ok v c' => .ok (f v) c'
      | .error e c' => .error e c' := by
  change EStateM.map f x c = _
  unfold EStateM.map
  cases x c <;> rfl

@[simp] theorem handler_ite {α : Type} (q : Prop) [Decidable q] (x y : Handler α) (c : Ctx) :
    (if q then x else y) c = if q then x c else y c := by split <;> rfl

@[simp] theorem port_bind {α β : Type} (x : Port α) (f : α → Port β) (p : Ports) :
    (x >>= f) p = f (x p).1 (x p).2 := rfl

@[simp] theorem port_pure {α : Type} (v : α) (p : Ports) : (pure v : Port α) p = (v, p) := rfl

@[simp] theorem port_map {α β : Type} (f : α → β) (x : Port α) (p : Ports) :
    (f <$> x) p = (f (x p).1, (x p).2) := rfl

/-! ### The parts of a handler -/

@[simp] theorem getTop_run (c : Ctx) : getTop c = .ok c.top c := rfl
@[simp] theorem setTop_run (a : Activation) (c : Ctx) : setTop a c = .ok () { c with top := a } := rfl
@[simp] theorem ask_run {α : Type} (m : Port α) (c : Ctx) :
    ask m c = .ok (m c.ports).1 { c with ports := (m c.ports).2 } := rfl
@[simp] theorem faultWith_run {α : Type} (f : EngineFault) (c : Ctx) :
    (faultWith f : Handler α) c = .error (.faulted f) c := rfl
@[simp] theorem checked_ok {α : Type} (v : α) (c : Ctx) : checked (.ok v) c = .ok v c := rfl
@[simp] theorem checked_error {α : Type} (f : EngineFault) (c : Ctx) :
    (checked (.error f) : Handler α) c = .error (.faulted f) c := rfl
@[simp] theorem pushCallee_run (b : Activation) (c : Ctx) : pushCallee b c = .ok () { c with callee := some b } := rfl

/-- A raise ends the handler with the exception object of its cause (R602, R603). -/
@[simp] theorem raise_run {α : Type} (x : Cause) (c : Ctx) :
    (raise x : Handler α) c =
      .error (.raised (exceptionObject x c.ports).1) { c with ports := (exceptionObject x c.ports).2 } := rfl

theorem readI32_run (i : Nat) (c : Ctx) : readI32 i c = checked (c.top.i32 i) c := rfl
theorem readI64_run (i : Nat) (c : Ctx) : readI64 i c = checked (c.top.i64 i) c := rfl
theorem readF32_run (i : Nat) (c : Ctx) : readF32 i c = checked (c.top.i32 i) c := rfl
theorem readF64_run (i : Nat) (c : Ctx) : readF64 i c = checked (c.top.i64 i) c := rfl
theorem readRef_run (i : Nat) (c : Ctx) : readRef i c = checked (c.top.ref i) c := rfl
theorem readUnit_run (k : Int) (c : Ctx) : readUnit k c = checked (c.top.method.unit k) c := rfl
theorem readUnit32_run (k : Int) (c : Ctx) : readUnit32 k c = checked (c.top.method.unit32 k) c := rfl
@[simp] theorem advance_run (n : Nat) (c : Ctx) : advance n c = .ok () { c with top := c.top.advance n } := rfl

/-- A read of a register that holds a value. -/
theorem readI32_ok {i : Nat} {c : Ctx} {v : Word32} (h : c.top.i32 i = .ok v) : readI32 i c = .ok v c := by
  rw [readI32_run, h, checked_ok]
theorem readI64_ok {i : Nat} {c : Ctx} {v : Word64} (h : c.top.i64 i = .ok v) : readI64 i c = .ok v c := by
  rw [readI64_run, h, checked_ok]
theorem readF32_ok {i : Nat} {c : Ctx} {v : Word32} (h : c.top.i32 i = .ok v) : readF32 i c = .ok v c := by
  rw [readF32_run, h, checked_ok]
theorem readF64_ok {i : Nat} {c : Ctx} {v : Word64} (h : c.top.i64 i = .ok v) : readF64 i c = .ok v c := by
  rw [readF64_run, h, checked_ok]
theorem readRef_ok {i : Nat} {c : Ctx} {v : Handle} (h : c.top.ref i = .ok v) : readRef i c = .ok v c := by
  rw [readRef_run, h, checked_ok]

/-- A write of a register: the top activation with its slot written, or F6. -/
theorem writeI32_run (i : Nat) (v : Word32) (c : Ctx) :
    writeI32 i v c = if i < c.top.regs.length then .ok () { c with top := c.top.putI32 i v }
      else .error (.faulted (.regRange i)) c := by
  by_cases h : i < c.top.regs.length <;> simp [writeI32, Activation.setI32, h]
theorem writeF32_run (i : Nat) (v : Word32) (c : Ctx) :
    writeF32 i v c = if i < c.top.regs.length then .ok () { c with top := c.top.putF32 i v }
      else .error (.faulted (.regRange i)) c := by
  by_cases h : i < c.top.regs.length <;> simp [writeF32, Activation.setF32, h]
theorem writeI64_run (i : Nat) (v : Word64) (c : Ctx) :
    writeI64 i v c = if i + 1 < c.top.regs.length then .ok () { c with top := c.top.putI64 i v }
      else .error (.faulted (.regRange i)) c := by
  by_cases h : i + 1 < c.top.regs.length <;> simp [writeI64, Activation.setI64, h]
theorem writeF64_run (i : Nat) (v : Word64) (c : Ctx) :
    writeF64 i v c = if i + 1 < c.top.regs.length then .ok () { c with top := c.top.putI64 i v }
      else .error (.faulted (.regRange i)) c := writeI64_run i v c
theorem writeRef_run (i : Nat) (h : Handle) (c : Ctx) :
    writeRef i h c = if i < c.top.regs.length then .ok () { c with top := c.top.putSlot i h }
      else .error (.faulted (.regRange i)) c := by
  by_cases hi : i < c.top.regs.length <;> simp [writeRef, Activation.setRef, hi]

/-- A jump: the cursor at the target, or F3 (R176). -/
theorem jump_run (off : Int) (c : Ctx) :
    jump off c = if 0 ≤ (c.top.pc : Int) + off ∧ (c.top.pc : Int) + off ≤ c.top.method.len then
        .ok () { c with top := { c.top with pc := ((c.top.pc : Int) + off).toNat } }
      else .error (.faulted (.pcRange ((c.top.pc : Int) + off))) c := by
  by_cases h : 0 ≤ (c.top.pc : Int) + off ∧ (c.top.pc : Int) + off ≤ c.top.method.len <;>
    simp [jump, Activation.goTo, h]

theorem orResolution_run {α : Type} (r : Reply α) (c : Ctx) :
    orResolution r c = match r with
      | .ok v => .ok v c
      | .fails e => .error (.raised e) c := by cases r <;> rfl
theorem orHost_run {α : Type} (r : Reply α) (c : Ctx) :
    orHost r c = match r with
      | .ok v => .ok v c
      | .fails e => .error (.raised e) c := by cases r <;> rfl

/-! ### Transactions -/

/-- Taking an answer touches only the ready answers and the draw counter. -/
theorem takeAnswer_frame {α : Type} (pick : Answer → Option α) (free : Nat → α) (p : Ports) :
    (takeAnswer pick free p).2.hostExc = p.hostExc ∧ (takeAnswer pick free p).2.entries = p.entries ∧
      (takeAnswer pick free p).2.delivered = p.delivered ∧ (takeAnswer pick free p).2.issued = p.issued ∧
      (takeAnswer pick free p).2.calls = p.calls := by
  unfold takeAnswer
  split
  · simp
  · split <;> simp

/-- An answer that stands ready. -/
theorem takeAnswer_ready {α : Type} (pick : Answer → Option α) (free : Nat → α) (p : Ports) (a : Answer)
    (rest : List Answer) (v : α) (h : p.answers = a :: rest) (hv : pick a = some v) :
    takeAnswer pick free p = (v, { p with answers := rest }) := by
  simp [takeAnswer, h, hv]

/-- The engine's check when nothing is raised (R604). -/
theorem pickUp_clear {p : Ports} (h : p.hostExc = none) :
    pickUp p = (none, { p with issued := .exceptionOccurred :: p.issued }) := by simp [pickUp, h]

/-- The engine's check when something is: it is picked up and cleared (R604). -/
theorem pickUp_raised {p : Ports} {e : Handle} (h : p.hostExc = some e) :
    pickUp p = (some e, { p with hostExc := none, issued := .exceptionClear :: .exceptionOccurred :: p.issued }) := by
  simp [pickUp, h]

/-- After the check the host's exception-raised state is clear, and only the log has changed beside it. -/
theorem pickUp_frame (p : Ports) : (pickUp p).1 = p.hostExc ∧ (pickUp p).2.hostExc = none ∧
    (pickUp p).2.entries = p.entries ∧ (pickUp p).2.delivered = p.delivered ∧ (pickUp p).2.calls = p.calls ∧
    (pickUp p).2.answers = p.answers ∧ (pickUp p).2.draws = p.draws := by
  unfold pickUp
  split <;> simp [*]

/-- An operation on the ports that leaves the host's exception-raised state clear where it was clear, and the waiting
entry calls, what was delivered and the outstanding host calls as they are. -/
def Quiet {α : Type} (m : Port α) : Prop :=
  ∀ p, (p.hostExc = none → (m p).2.hostExc = none) ∧ (m p).2.entries = p.entries ∧
    (m p).2.delivered = p.delivered ∧ (m p).2.calls = p.calls

/-- An operation on the ports that ends with the host's exception-raised state clear. -/
def Clears {α : Type} (m : Port α) : Prop := ∀ p, (m p).2.hostExc = none

theorem quiet_pure {α : Type} (v : α) : Quiet (pure v : Port α) := fun _ => ⟨id, rfl, rfl, rfl⟩

theorem quiet_bind {α β : Type} {x : Port α} {f : α → Port β} (hx : Quiet x) (hf : ∀ v, Quiet (f v)) :
    Quiet (x >>= f) := fun p => by
  have h1 := hx p
  have h2 := hf (x p).1 (x p).2
  rw [port_bind]
  exact ⟨fun h => h2.1 (h1.1 h), h2.2.1.trans h1.2.1, h2.2.2.1.trans h1.2.2.1, h2.2.2.2.trans h1.2.2.2⟩

theorem clears_bind {α β : Type} {x : Port α} {f : α → Port β} (hf : ∀ v, Clears (f v)) : Clears (x >>= f) :=
  fun p => hf (x p).1 (x p).2

theorem clears_then_pure {α β : Type} {x : Port α} {f : α → β} (hx : Clears x) :
    Clears (x >>= fun v => pure (f v)) := fun p => hx p

theorem quiet_takeAnswer {α : Type} (pick : Answer → Option α) (free : Nat → α) : Quiet (takeAnswer pick free) :=
  fun p =>
    have h := takeAnswer_frame pick free p
    ⟨fun hp => h.1.trans hp, h.2.1, h.2.2.1, h.2.2.2.2⟩

theorem quiet_issue (r : Request) : Quiet (issue r) := fun _ => ⟨id, rfl, rfl, rfl⟩

theorem quiet_pickUp : Quiet pickUp := fun p =>
  have h := pickUp_frame p
  ⟨fun _ => h.2.1, h.2.2.1, h.2.2.2.1, h.2.2.2.2.1⟩

theorem clears_pickUp : Clears pickUp := fun p => (pickUp_frame p).2.1

/-- Raising in the host and then picking up leaves nothing raised. -/
theorem quiet_raise_pickUp (e : Option Handle) : Quiet (hostRaise e >>= fun _ => pickUp) := fun p => by
  cases e with
  | none => exact quiet_pickUp p
  | some h =>
    have f := pickUp_frame { p with hostExc := some h }
    exact ⟨fun _ => f.2.1, f.2.2.1, f.2.2.2.1, f.2.2.2.2.1⟩

theorem answered_frame {α : Type} (pick : Answer → Option α) (free : Nat → α) (raised : α → Option Handle) :
    Quiet (answered pick free raised) ∧ Clears (answered pick free raised) := by
  have h : answered pick free raised =
      (takeAnswer pick free >>= fun v => (hostRaise (raised v) >>= fun _ => pickUp) >>= fun e => pure (v, e)) := rfl
  rw [h]
  exact ⟨quiet_bind (quiet_takeAnswer _ _) fun v => quiet_bind (quiet_raise_pickUp _) fun e => quiet_pure _,
    clears_bind fun v => clears_then_pure (clears_bind fun _ => clears_pickUp)⟩

theorem query_frame {α : Type} (r : Request) (pick : Answer → Option α) (free : Nat → α) :
    Quiet (query r pick free) ∧ Clears (query r pick free) :=
  ⟨quiet_bind (quiet_issue r) fun _ => quiet_bind (answered_frame _ _ _).1 fun _ => quiet_pure _,
    clears_bind fun _ => clears_then_pure (answered_frame _ _ _).2⟩

theorem attempt_frame {α : Type} (r : Request) (pick : Answer → Option (Reply α)) (free : Nat → Reply α) :
    Quiet (attempt r pick free) ∧ Clears (attempt r pick free) :=
  ⟨quiet_bind (quiet_issue r) fun _ => quiet_bind (answered_frame _ _ _).1 fun _ => quiet_pure _,
    clears_bind fun _ => clears_then_pure (answered_frame _ _ _).2⟩

theorem send_frame (r : Request) : Quiet (send r) ∧ Clears (send r) :=
  ⟨quiet_bind (quiet_issue r) fun _ => quiet_bind quiet_pickUp fun _ => quiet_pure _,
    clears_bind fun _ => clears_then_pure clears_pickUp⟩

theorem throwNew_frame (x : NewException) : Quiet (throwNew x) ∧ Clears (throwNew x) :=
  ⟨quiet_bind (quiet_issue _) fun _ => quiet_bind (answered_frame _ _ _).1 fun _ => quiet_pure _,
    clears_bind fun _ => clears_then_pure (answered_frame _ _ _).2⟩

theorem monitorEnterOn_frame (h : Handle) : Quiet (monitorEnterOn h) ∧ Clears (monitorEnterOn h) :=
  ⟨quiet_bind (quiet_issue _) fun _ => quiet_bind (answered_frame _ _ _).1 fun _ => quiet_pure _,
    clears_bind fun _ => clears_then_pure (answered_frame _ _ _).2⟩

theorem methodInfo_frame (m : Handle) : Quiet (methodInfo m) ∧ Clears (methodInfo m) :=
  ⟨quiet_bind (query_frame _ _ _).1 fun _ => quiet_pure _, clears_then_pure (query_frame _ _ _).2⟩

/-- What `methodInfo` answers is within the ranges of R7. -/
theorem methodInfo_inRange (m : Handle) (p : Ports) : 1 ≤ (methodInfo m p).1.nreg ∧ (methodInfo m p).1.nreg ≤ regMax ∧
    (methodInfo m p).1.nins ≤ (methodInfo m p).1.nreg ∧ (methodInfo m p).1.units.length ≤ codeMax := by
  rw [methodInfo, port_bind, port_pure]
  simp only [MethodInfo.bounded, List.length_take]
  refine ⟨by omega, ?_, by omega, by omega⟩
  simp only [regMax]
  omega

/-- A descriptor within the ranges of R7 is taken as it is. -/
theorem bounded_of_inRange {m : MethodInfo} (h1 : 1 ≤ m.nreg) (h2 : m.nreg ≤ regMax) (h3 : m.nins ≤ m.nreg)
    (h4 : m.units.length ≤ codeMax) : m.bounded = m := by
  have hn : max 1 (min m.nreg regMax) = m.nreg := by omega
  cases m
  simp only [MethodInfo.bounded] at *
  simp [hn, h3, List.take_of_length_le h4]

/-- A query whose answer stands ready, with nothing raised in the host. -/
theorem query_ready {α : Type} (r : Request) (pick : Answer → Option α) (free : Nat → α) (p : Ports) (a : Answer)
    (rest : List Answer) (v : α) (h : p.answers = a :: rest) (hv : pick a = some v) (hx : p.hostExc = none) :
    query r pick free p = (v, { p with answers := rest, issued := .exceptionOccurred :: r :: p.issued }) := by
  simp [query, issue, answered, takeAnswer, hostRaise, pickUp, h, hv, hx]

/-- A transaction whose success stands ready, with nothing raised in the host. -/
theorem attempt_ready {α : Type} (r : Request) (pick : Answer → Option (Reply α)) (free : Nat → Reply α) (p : Ports)
    (a : Answer) (rest : List Answer) (v : α) (h : p.answers = a :: rest) (hv : pick a = some (.ok v))
    (hx : p.hostExc = none) :
    attempt r pick free p = (.ok v, { p with answers := rest, issued := .exceptionOccurred :: r :: p.issued }) := by
  simp [attempt, issue, answered, takeAnswer, hostRaise, pickUp, Reply.raised, h, hv, hx]

/-- A transaction whose failure stands ready: its exception is picked up and cleared (R604). -/
theorem attempt_fails {α : Type} (r : Request) (pick : Answer → Option (Reply α)) (free : Nat → Reply α) (p : Ports)
    (a : Answer) (rest : List Answer) (e : Handle) (h : p.answers = a :: rest) (hv : pick a = some (.fails e)) :
    attempt r pick free p = (.fails e, { p with
      answers := rest, hostExc := none, issued := .exceptionClear :: .exceptionOccurred :: r :: p.issued }) := by
  simp [attempt, issue, answered, takeAnswer, hostRaise, pickUp, Reply.raised, h, hv]

theorem callAnswer_quiet : Quiet callAnswer := by
  unfold callAnswer
  refine quiet_bind (quiet_takeAnswer _ _) fun r => ?_
  cases r with
  | reenters entry => exact quiet_pure _
  | returns bits =>
    refine quiet_bind quiet_pickUp fun e => ?_
    cases e <;> exact quiet_pure _
  | fails e =>
    exact quiet_bind (x := hostRaise (some e) >>= fun _ => pickUp) (quiet_raise_pickUp _) fun _ => quiet_pure _

theorem quiet_exceptionObject (x : Cause) : Quiet (exceptionObject x) := by
  cases x with
  | new n => exact (throwNew_frame n).1
  | resolution e => exact quiet_pure e
  | host e => exact quiet_pure e
  | thrown e => exact quiet_pure e

theorem quiet_produce32 (r : Option Nat) : Quiet (produce32 r) := by
  cases r with
  | some n => exact quiet_pure _
  | none => exact fun _ => ⟨id, rfl, rfl, rfl⟩

theorem quiet_produce64 (r : Option Nat) : Quiet (produce64 r) := by
  cases r with
  | some n => exact quiet_pure _
  | none => exact fun _ => ⟨id, rfl, rfl, rfl⟩

theorem quiet_startChain (maxDepth depth : Nat) (call : EntryCall) : Quiet (startChain maxDepth depth call) :=
  quiet_bind (methodInfo_frame _).1 fun _ => quiet_bind (query_frame _ _ _).1 fun _ => quiet_pure _

theorem quiet_matchTyped (e : Handle) (l : List (Nat × Int)) : Quiet (matchTyped e l) := by
  induction l with
  | nil => exact quiet_pure _
  | cons x xs ih =>
    obtain ⟨ti, t⟩ := x
    unfold matchTyped
    refine quiet_bind (attempt_frame _ _ _).1 fun r => ?_
    cases r with
    | fails _ => exact ih
    | ok cls =>
      refine quiet_bind (query_frame _ _ _).1 fun b => ?_
      cases b with
      | false => exact ih
      | true => exact quiet_pure _

theorem quiet_search (l : HandlerList) (e : Handle) : Quiet (l.search e) := by
  refine quiet_bind (quiet_matchTyped e _) fun r => ?_
  cases r <;> exact quiet_pure _

theorem quiet_findHandler (a : Activation) (e : Handle) : Quiet (a.findHandler e) := by
  unfold Activation.findHandler
  split
  · exact quiet_pure _
  · exact quiet_search _ _

/-! ### The settled state -/

/-- A handler that completed. -/
theorem runTop_ok {h : Handler Unit} {s : State} {a : Activation} {rest : List Activation} {c : Ctx}
    (hs : s.stack = a :: rest) (hc : h (Ctx.enter s a rest) = .ok () c) :
    runTop h s = .next { s with stack := c.stackOver rest, ports := c.ports } := by
  simp [runTop, hs, hc, settle]

/-- A handler that raised. -/
theorem runTop_raised {h : Handler Unit} {s : State} {a : Activation} {rest : List Activation} {c : Ctx} {e : Handle}
    (hs : s.stack = a :: rest) (hc : h (Ctx.enter s a rest) = .error (.raised e) c) :
    runTop h s = .next { s with stack := Activation.takeException { a with pc := c.top.pc } e :: rest, ports := c.ports } := by
  simp [runTop, hs, hc, settle]

/-- A handler that faulted. -/
theorem runTop_faulted {h : Handler Unit} {s : State} {a : Activation} {rest : List Activation} {c : Ctx}
    {f : EngineFault} (hs : s.stack = a :: rest) (hc : h (Ctx.enter s a rest) = .error (.faulted f) c) :
    runTop h s = .next (State.abort { s with stack := { a with pc := c.top.pc } :: rest, ports := c.ports } f) := by
  simp [runTop, hs, hc, settle]

/-- A monitor-enter that is never answered. -/
theorem runTop_unanswered {h : Handler Unit} {s : State} {a : Activation} {rest : List Activation} {c : Ctx}
    (hs : s.stack = a :: rest) (hc : h (Ctx.enter s a rest) = .error .unanswered c) :
    runTop h s = .fault .monitorUnanswered := by
  simp [runTop, hs, hc, settle]

/-- What a handler run on the top activation can come to. -/
theorem runTop_cases {h : Handler Unit} {s : State} {a : Activation} {rest : List Activation} (hs : s.stack = a :: rest) :
    (∃ c, h (Ctx.enter s a rest) = .ok () c ∧
      runTop h s = .next { s with stack := c.stackOver rest, ports := c.ports }) ∨
    (∃ e c, h (Ctx.enter s a rest) = .error (.raised e) c ∧ runTop h s =
      .next { s with stack := Activation.takeException { a with pc := c.top.pc } e :: rest, ports := c.ports }) ∨
    (∃ f c, h (Ctx.enter s a rest) = .error (.faulted f) c ∧ runTop h s =
      .next (State.abort { s with stack := { a with pc := c.top.pc } :: rest, ports := c.ports } f)) ∨
    (∃ c, h (Ctx.enter s a rest) = .error .unanswered c ∧ runTop h s = .fault .monitorUnanswered) := by
  cases hr : h (Ctx.enter s a rest) with
  | ok v c => exact .inl ⟨c, rfl, runTop_ok hs hr⟩
  | error e c =>
    cases e with
    | raised x => exact .inr (.inl ⟨x, c, rfl, runTop_raised hs hr⟩)
    | faulted f => exact .inr (.inr (.inl ⟨f, c, rfl, runTop_faulted hs hr⟩))
    | unanswered => exact .inr (.inr (.inr ⟨c, rfl, runTop_unanswered hs hr⟩))

/-! ### The end of a chain -/

/-- With nothing below it, the chain was the run. -/
theorem chainEnded_last {s : State} (r : Reply Unit) (h : s.stack = []) : chainEnded s r = .next s := by
  simp [chainEnded, h]

/-- The newest outstanding host call goes on, in the same step. -/
theorem chainEnded_call {s : State} {b : Activation} {below : List Activation} {call : StagedCall}
    {calls : List StagedCall} (r : Reply Unit) (h : s.stack = b :: below) (hc : s.ports.calls = call :: calls) :
    chainEnded s r = runTop (resumeCall call r) { s with ports := { s.ports with calls := calls } } := by
  simp [chainEnded, h, hc]

/-- A nested callee's result goes to the activation below (R566). -/
theorem deliver_nested {s : State} {r : ReturnValue} {b : Activation} {below : List Activation}
    (h : b.awaitsCallee = true) : deliver s r (b :: below) = .next { s with stack := b.takeResult r :: below } := by
  simp [deliver, hostStarted, h]

/-- A nested callee's exception goes to the activation below (R567). -/
theorem propagate_nested {s : State} {e : Handle} {b : Activation} {below : List Activation}
    (h : b.awaitsCallee = true) : propagate s e (b :: below) = .next { s with stack := b.takeException e :: below } := by
  simp [propagate, hostStarted, h]

end Sys2Proof.Machine
end

