-- ==== Sys2Proof/Laws/PerInstr.lean ====
section
/-! SUPPORT. A law of every instruction as it is written: its encoding begins with a unit whose low byte is its opcode, and
is as many code units long as the opcode table says of that opcode (spec/30_encoding.md R120, R124, R127). One lemma per
constructor. -/

namespace Sys2Proof.Laws.EncodedLength

/-- The encoding has a first unit, and as many units as the opcode table gives the opcode in that unit's low byte. -/
def Statement (i : Instr) : Prop :=
  ∃ u rest, encode i = u :: rest ∧ rest.length + 1 = (shapeOf (lowByte u)).len

end Sys2Proof.Laws.EncodedLength

namespace Sys2Proof.Laws

/-- The lengths of the opcode table's entries, in units (R124, R127, R128). -/
def lengths : List Nat := [
  1, 1, 2, 3, 1, 2, 3, 1, 2, 3, 1, 1, 1, 1, 1, 1,
  1, 1, 1, 2, 3, 2, 2, 3, 5, 2, 2, 3, 2, 1, 1, 2,
  2, 1, 2, 2, 3, 3, 3, 1, 1, 2, 3, 3, 3, 2, 2, 2,
  2, 2, 2, 2, 2, 2, 2, 2, 2, 2, 2, 2, 2, 2, 1, 1,
  1, 1, 1, 1, 2, 2, 2, 2, 2, 2, 2, 2, 2, 2, 2, 2,
  2, 2, 2, 2, 2, 2, 2, 2, 2, 2, 2, 2, 2, 2, 2, 2,
  2, 2, 2, 2, 2, 2, 2, 2, 2, 2, 2, 2, 2, 2, 3, 3,
  3, 3, 3, 1, 3, 3, 3, 3, 3, 1, 1, 1, 1, 1, 1, 1,
  1, 1, 1, 1, 1, 1, 1, 1, 1, 1, 1, 1, 1, 1, 1, 1,
  2, 2, 2, 2, 2, 2, 2, 2, 2, 2, 2, 2, 2, 2, 2, 2,
  2, 2, 2, 2, 2, 2, 2, 2, 2, 2, 2, 2, 2, 2, 2, 2,
  1, 1, 1, 1, 1, 1, 1, 1, 1, 1, 1, 1, 1, 1, 1, 1,
  1, 1, 1, 1, 1, 1, 1, 1, 1, 1, 1, 1, 1, 1, 1, 1,
  2, 2, 2, 2, 2, 2, 2, 2, 2, 2, 2, 2, 2, 2, 2, 2,
  2, 2, 2, 1, 1, 1, 1, 1, 1, 1, 1, 1, 1, 1, 1, 1,
  1, 1, 1, 1, 1, 1, 1, 1, 1, 1, 1, 1, 1, 1, 1, 1]

set_option maxRecDepth 10000 in
theorem opcodeTable_lengths : opcodeTable.map Shape.len = lengths := rfl

theorem getD_len (l : List Shape) (n : Nat) : (l.getD n (.trap .nop)).len = (l.map Shape.len).getD n 1 := by
  rw [List.getD_eq_getElem?_getD, List.getD_eq_getElem?_getD, List.getElem?_map]
  cases l[n]? <;> rfl

theorem shapeOf_len (op : BitVec 8) : (shapeOf op).len = lengths.getD op.toNat 1 :=
  (getD_len opcodeTable op.toNat).trans (congrArg (fun l => List.getD l op.toNat 1) opcodeTable_lengths)

/-- The law of an instruction, from its first unit. -/
theorem encodedLength_of {i : Instr} {u : CodeUnit} {rest : List CodeUnit} {op : BitVec 8} (n : Nat)
    (he : encode i = u :: rest) (ho : lowByte u = op) (hr : rest.length + 1 = n) (hl : lengths.getD op.toNat 1 = n) :
    EncodedLength.Statement i :=
  ⟨u, rest, he, by rw [ho, shapeOf_len, hl]; exact hr⟩

end Sys2Proof.Laws

namespace Sys2Proof.Laws.EncodedLength

theorem nop : Statement .nop := encodedLength_of 1 rfl (lowByte_unit8 _ _) rfl rfl
theorem move (a b : BitVec 4) : Statement (.move a b) := encodedLength_of 1 rfl (lowByte_unit4 _ _ _) rfl rfl
theorem moveFrom16 (aa : BitVec 8) (bbbb : BitVec 16) : Statement (.moveFrom16 aa bbbb) :=
  encodedLength_of 2 rfl (lowByte_unit8 _ _) rfl rfl
theorem move16 (aaaa bbbb : BitVec 16) : Statement (.move16 aaaa bbbb) :=
  encodedLength_of 3 rfl (lowByte_unit8 _ _) rfl rfl
theorem moveWide (a b : BitVec 4) : Statement (.moveWide a b) := encodedLength_of 1 rfl (lowByte_unit4 _ _ _) rfl rfl
theorem moveWideFrom16 (aa : BitVec 8) (bbbb : BitVec 16) : Statement (.moveWideFrom16 aa bbbb) :=
  encodedLength_of 2 rfl (lowByte_unit8 _ _) rfl rfl
theorem moveWide16 (aaaa bbbb : BitVec 16) : Statement (.moveWide16 aaaa bbbb) :=
  encodedLength_of 3 rfl (lowByte_unit8 _ _) rfl rfl
theorem moveObject (a b : BitVec 4) : Statement (.moveObject a b) :=
  encodedLength_of 1 rfl (lowByte_unit4 _ _ _) rfl rfl
theorem moveObjectFrom16 (aa : BitVec 8) (bbbb : BitVec 16) : Statement (.moveObjectFrom16 aa bbbb) :=
  encodedLength_of 2 rfl (lowByte_unit8 _ _) rfl rfl
theorem moveObject16 (aaaa bbbb : BitVec 16) : Statement (.moveObject16 aaaa bbbb) :=
  encodedLength_of 3 rfl (lowByte_unit8 _ _) rfl rfl
theorem moveResult (aa : BitVec 8) : Statement (.moveResult aa) := encodedLength_of 1 rfl (lowByte_unit8 _ _) rfl rfl
theorem moveResultWide (aa : BitVec 8) : Statement (.moveResultWide aa) :=
  encodedLength_of 1 rfl (lowByte_unit8 _ _) rfl rfl
theorem moveResultObject (aa : BitVec 8) : Statement (.moveResultObject aa) :=
  encodedLength_of 1 rfl (lowByte_unit8 _ _) rfl rfl
theorem moveException (aa : BitVec 8) : Statement (.moveException aa) :=
  encodedLength_of 1 rfl (lowByte_unit8 _ _) rfl rfl
theorem returnVoid : Statement .returnVoid := encodedLength_of 1 rfl (lowByte_unit8 _ _) rfl rfl
theorem returnVal (aa : BitVec 8) : Statement (.returnVal aa) := encodedLength_of 1 rfl (lowByte_unit8 _ _) rfl rfl
theorem returnWide (aa : BitVec 8) : Statement (.returnWide aa) := encodedLength_of 1 rfl (lowByte_unit8 _ _) rfl rfl
theorem returnObject (aa : BitVec 8) : Statement (.returnObject aa) :=
  encodedLength_of 1 rfl (lowByte_unit8 _ _) rfl rfl
theorem const4 (a b : BitVec 4) : Statement (.const4 a b) := encodedLength_of 1 rfl (lowByte_unit4 _ _ _) rfl rfl
theorem const16 (aa : BitVec 8) (bbbb : BitVec 16) : Statement (.const16 aa bbbb) :=
  encodedLength_of 2 rfl (lowByte_unit8 _ _) rfl rfl
theorem const32 (aa : BitVec 8) (lit : BitVec 32) : Statement (.const32 aa lit) :=
  encodedLength_of 3 rfl (lowByte_unit8 _ _) rfl rfl
theorem constHigh16 (aa : BitVec 8) (bbbb : BitVec 16) : Statement (.constHigh16 aa bbbb) :=
  encodedLength_of 2 rfl (lowByte_unit8 _ _) rfl rfl
theorem constWide16 (aa : BitVec 8) (bbbb : BitVec 16) : Statement (.constWide16 aa bbbb) :=
  encodedLength_of 2 rfl (lowByte_unit8 _ _) rfl rfl
theorem constWide32 (aa : BitVec 8) (lit : BitVec 32) : Statement (.constWide32 aa lit) :=
  encodedLength_of 3 rfl (lowByte_unit8 _ _) rfl rfl
theorem constWide (aa : BitVec 8) (lit : BitVec 64) : Statement (.constWide aa lit) :=
  encodedLength_of 5 rfl (lowByte_unit8 _ _) rfl rfl
theorem constWideHigh16 (aa : BitVec 8) (bbbb : BitVec 16) : Statement (.constWideHigh16 aa bbbb) :=
  encodedLength_of 2 rfl (lowByte_unit8 _ _) rfl rfl
theorem constString (aa : BitVec 8) (bbbb : BitVec 16) : Statement (.constString aa bbbb) :=
  encodedLength_of 2 rfl (lowByte_unit8 _ _) rfl rfl
theorem constStringJumbo (aa : BitVec 8) (idx : BitVec 32) : Statement (.constStringJumbo aa idx) :=
  encodedLength_of 3 rfl (lowByte_unit8 _ _) rfl rfl
theorem constClass (aa : BitVec 8) (bbbb : BitVec 16) : Statement (.constClass aa bbbb) :=
  encodedLength_of 2 rfl (lowByte_unit8 _ _) rfl rfl
theorem monitorEnter (aa : BitVec 8) : Statement (.monitorEnter aa) :=
  encodedLength_of 1 rfl (lowByte_unit8 _ _) rfl rfl
theorem monitorExit (aa : BitVec 8) : Statement (.monitorExit aa) :=
  encodedLength_of 1 rfl (lowByte_unit8 _ _) rfl rfl
theorem checkCast (aa : BitVec 8) (bbbb : BitVec 16) : Statement (.checkCast aa bbbb) :=
  encodedLength_of 2 rfl (lowByte_unit8 _ _) rfl rfl
theorem instanceOf (a b : BitVec 4) (cccc : BitVec 16) : Statement (.instanceOf a b cccc) :=
  encodedLength_of 2 rfl (lowByte_unit4 _ _ _) rfl rfl
theorem arrayLength (a b : BitVec 4) : Statement (.arrayLength a b) :=
  encodedLength_of 1 rfl (lowByte_unit4 _ _ _) rfl rfl
theorem newInstance (aa : BitVec 8) (bbbb : BitVec 16) : Statement (.newInstance aa bbbb) :=
  encodedLength_of 2 rfl (lowByte_unit8 _ _) rfl rfl
theorem newArray (a b : BitVec 4) (cccc : BitVec 16) : Statement (.newArray a b cccc) :=
  encodedLength_of 2 rfl (lowByte_unit4 _ _ _) rfl rfl
theorem filledNewArray (a : BitVec 4) (bbbb : BitVec 16) (c d e f g : BitVec 4) : Statement (.filledNewArray a bbbb c d e f g) :=
  encodedLength_of 3 rfl (lowByte_unit4 _ _ _) rfl rfl
theorem filledNewArrayRange (aa : BitVec 8) (bbbb cccc : BitVec 16) : Statement (.filledNewArrayRange aa bbbb cccc) :=
  encodedLength_of 3 rfl (lowByte_unit8 _ _) rfl rfl
theorem fillArrayData (aa : BitVec 8) (off : BitVec 32) : Statement (.fillArrayData aa off) :=
  encodedLength_of 3 rfl (lowByte_unit8 _ _) rfl rfl
theorem throwObj (aa : BitVec 8) : Statement (.throwObj aa) := encodedLength_of 1 rfl (lowByte_unit8 _ _) rfl rfl
theorem goto (aa : BitVec 8) : Statement (.goto aa) := encodedLength_of 1 rfl (lowByte_unit8 _ _) rfl rfl
theorem goto16 (aaaa : BitVec 16) : Statement (.goto16 aaaa) := encodedLength_of 2 rfl (lowByte_unit8 _ _) rfl rfl
theorem goto32 (off : BitVec 32) : Statement (.goto32 off) := encodedLength_of 3 rfl (lowByte_unit8 _ _) rfl rfl
theorem packedSwitch (aa : BitVec 8) (off : BitVec 32) : Statement (.packedSwitch aa off) :=
  encodedLength_of 3 rfl (lowByte_unit8 _ _) rfl rfl
theorem sparseSwitch (aa : BitVec 8) (off : BitVec 32) : Statement (.sparseSwitch aa off) :=
  encodedLength_of 3 rfl (lowByte_unit8 _ _) rfl rfl
theorem cmplFloat (aa bb cc : BitVec 8) : Statement (.cmplFloat aa bb cc) :=
  encodedLength_of 2 rfl (lowByte_unit8 _ _) rfl rfl
theorem cmpgFloat (aa bb cc : BitVec 8) : Statement (.cmpgFloat aa bb cc) :=
  encodedLength_of 2 rfl (lowByte_unit8 _ _) rfl rfl
theorem cmplDouble (aa bb cc : BitVec 8) : Statement (.cmplDouble aa bb cc) :=
  encodedLength_of 2 rfl (lowByte_unit8 _ _) rfl rfl
theorem cmpgDouble (aa bb cc : BitVec 8) : Statement (.cmpgDouble aa bb cc) :=
  encodedLength_of 2 rfl (lowByte_unit8 _ _) rfl rfl
theorem cmpLong (aa bb cc : BitVec 8) : Statement (.cmpLong aa bb cc) :=
  encodedLength_of 2 rfl (lowByte_unit8 _ _) rfl rfl
theorem ifEq (a b : BitVec 4) (cccc : BitVec 16) : Statement (.ifEq a b cccc) :=
  encodedLength_of 2 rfl (lowByte_unit4 _ _ _) rfl rfl
theorem ifNe (a b : BitVec 4) (cccc : BitVec 16) : Statement (.ifNe a b cccc) :=
  encodedLength_of 2 rfl (lowByte_unit4 _ _ _) rfl rfl
theorem ifLt (a b : BitVec 4) (cccc : BitVec 16) : Statement (.ifLt a b cccc) :=
  encodedLength_of 2 rfl (lowByte_unit4 _ _ _) rfl rfl
theorem ifGe (a b : BitVec 4) (cccc : BitVec 16) : Statement (.ifGe a b cccc) :=
  encodedLength_of 2 rfl (lowByte_unit4 _ _ _) rfl rfl
theorem ifGt (a b : BitVec 4) (cccc : BitVec 16) : Statement (.ifGt a b cccc) :=
  encodedLength_of 2 rfl (lowByte_unit4 _ _ _) rfl rfl
theorem ifLe (a b : BitVec 4) (cccc : BitVec 16) : Statement (.ifLe a b cccc) :=
  encodedLength_of 2 rfl (lowByte_unit4 _ _ _) rfl rfl
theorem ifEqz (aa : BitVec 8) (bbbb : BitVec 16) : Statement (.ifEqz aa bbbb) :=
  encodedLength_of 2 rfl (lowByte_unit8 _ _) rfl rfl
theorem ifNez (aa : BitVec 8) (bbbb : BitVec 16) : Statement (.ifNez aa bbbb) :=
  encodedLength_of 2 rfl (lowByte_unit8 _ _) rfl rfl
theorem ifLtz (aa : BitVec 8) (bbbb : BitVec 16) : Statement (.ifLtz aa bbbb) :=
  encodedLength_of 2 rfl (lowByte_unit8 _ _) rfl rfl
theorem ifGez (aa : BitVec 8) (bbbb : BitVec 16) : Statement (.ifGez aa bbbb) :=
  encodedLength_of 2 rfl (lowByte_unit8 _ _) rfl rfl
theorem ifGtz (aa : BitVec 8) (bbbb : BitVec 16) : Statement (.ifGtz aa bbbb) :=
  encodedLength_of 2 rfl (lowByte_unit8 _ _) rfl rfl
theorem ifLez (aa : BitVec 8) (bbbb : BitVec 16) : Statement (.ifLez aa bbbb) :=
  encodedLength_of 2 rfl (lowByte_unit8 _ _) rfl rfl
theorem unused3e : Statement .unused3e := encodedLength_of 1 rfl (lowByte_unit8 _ _) rfl rfl
theorem unused3f : Statement .unused3f := encodedLength_of 1 rfl (lowByte_unit8 _ _) rfl rfl
theorem unused40 : Statement .unused40 := encodedLength_of 1 rfl (lowByte_unit8 _ _) rfl rfl
theorem unused41 : Statement .unused41 := encodedLength_of 1 rfl (lowByte_unit8 _ _) rfl rfl
theorem unused42 : Statement .unused42 := encodedLength_of 1 rfl (lowByte_unit8 _ _) rfl rfl
theorem unused43 : Statement .unused43 := encodedLength_of 1 rfl (lowByte_unit8 _ _) rfl rfl
theorem aget (aa bb cc : BitVec 8) : Statement (.aget aa bb cc) := encodedLength_of 2 rfl (lowByte_unit8 _ _) rfl rfl
theorem agetWide (aa bb cc : BitVec 8) : Statement (.agetWide aa bb cc) :=
  encodedLength_of 2 rfl (lowByte_unit8 _ _) rfl rfl
theorem agetObject (aa bb cc : BitVec 8) : Statement (.agetObject aa bb cc) :=
  encodedLength_of 2 rfl (lowByte_unit8 _ _) rfl rfl
theorem agetBoolean (aa bb cc : BitVec 8) : Statement (.agetBoolean aa bb cc) :=
  encodedLength_of 2 rfl (lowByte_unit8 _ _) rfl rfl
theorem agetByte (aa bb cc : BitVec 8) : Statement (.agetByte aa bb cc) :=
  encodedLength_of 2 rfl (lowByte_unit8 _ _) rfl rfl
theorem agetChar (aa bb cc : BitVec 8) : Statement (.agetChar aa bb cc) :=
  encodedLength_of 2 rfl (lowByte_unit8 _ _) rfl rfl
theorem agetShort (aa bb cc : BitVec 8) : Statement (.agetShort aa bb cc) :=
  encodedLength_of 2 rfl (lowByte_unit8 _ _) rfl rfl
theorem aput (aa bb cc : BitVec 8) : Statement (.aput aa bb cc) := encodedLength_of 2 rfl (lowByte_unit8 _ _) rfl rfl
theorem aputWide (aa bb cc : BitVec 8) : Statement (.aputWide aa bb cc) :=
  encodedLength_of 2 rfl (lowByte_unit8 _ _) rfl rfl
theorem aputObject (aa bb cc : BitVec 8) : Statement (.aputObject aa bb cc) :=
  encodedLength_of 2 rfl (lowByte_unit8 _ _) rfl rfl
theorem aputBoolean (aa bb cc : BitVec 8) : Statement (.aputBoolean aa bb cc) :=
  encodedLength_of 2 rfl (lowByte_unit8 _ _) rfl rfl
theorem aputByte (aa bb cc : BitVec 8) : Statement (.aputByte aa bb cc) :=
  encodedLength_of 2 rfl (lowByte_unit8 _ _) rfl rfl
theorem aputChar (aa bb cc : BitVec 8) : Statement (.aputChar aa bb cc) :=
  encodedLength_of 2 rfl (lowByte_unit8 _ _) rfl rfl
theorem aputShort (aa bb cc : BitVec 8) : Statement (.aputShort aa bb cc) :=
  encodedLength_of 2 rfl (lowByte_unit8 _ _) rfl rfl
theorem iget (a b : BitVec 4) (cccc : BitVec 16) : Statement (.iget a b cccc) :=
  encodedLength_of 2 rfl (lowByte_unit4 _ _ _) rfl rfl
theorem igetWide (a b : BitVec 4) (cccc : BitVec 16) : Statement (.igetWide a b cccc) :=
  encodedLength_of 2 rfl (lowByte_unit4 _ _ _) rfl rfl
theorem igetObject (a b : BitVec 4) (cccc : BitVec 16) : Statement (.igetObject a b cccc) :=
  encodedLength_of 2 rfl (lowByte_unit4 _ _ _) rfl rfl
theorem igetBoolean (a b : BitVec 4) (cccc : BitVec 16) : Statement (.igetBoolean a b cccc) :=
  encodedLength_of 2 rfl (lowByte_unit4 _ _ _) rfl rfl
theorem igetByte (a b : BitVec 4) (cccc : BitVec 16) : Statement (.igetByte a b cccc) :=
  encodedLength_of 2 rfl (lowByte_unit4 _ _ _) rfl rfl
theorem igetChar (a b : BitVec 4) (cccc : BitVec 16) : Statement (.igetChar a b cccc) :=
  encodedLength_of 2 rfl (lowByte_unit4 _ _ _) rfl rfl
theorem igetShort (a b : BitVec 4) (cccc : BitVec 16) : Statement (.igetShort a b cccc) :=
  encodedLength_of 2 rfl (lowByte_unit4 _ _ _) rfl rfl
theorem iput (a b : BitVec 4) (cccc : BitVec 16) : Statement (.iput a b cccc) :=
  encodedLength_of 2 rfl (lowByte_unit4 _ _ _) rfl rfl
theorem iputWide (a b : BitVec 4) (cccc : BitVec 16) : Statement (.iputWide a b cccc) :=
  encodedLength_of 2 rfl (lowByte_unit4 _ _ _) rfl rfl
theorem iputObject (a b : BitVec 4) (cccc : BitVec 16) : Statement (.iputObject a b cccc) :=
  encodedLength_of 2 rfl (lowByte_unit4 _ _ _) rfl rfl
theorem iputBoolean (a b : BitVec 4) (cccc : BitVec 16) : Statement (.iputBoolean a b cccc) :=
  encodedLength_of 2 rfl (lowByte_unit4 _ _ _) rfl rfl
theorem iputByte (a b : BitVec 4) (cccc : BitVec 16) : Statement (.iputByte a b cccc) :=
  encodedLength_of 2 rfl (lowByte_unit4 _ _ _) rfl rfl
theorem iputChar (a b : BitVec 4) (cccc : BitVec 16) : Statement (.iputChar a b cccc) :=
  encodedLength_of 2 rfl (lowByte_unit4 _ _ _) rfl rfl
theorem iputShort (a b : BitVec 4) (cccc : BitVec 16) : Statement (.iputShort a b cccc) :=
  encodedLength_of 2 rfl (lowByte_unit4 _ _ _) rfl rfl
theorem sget (aa : BitVec 8) (bbbb : BitVec 16) : Statement (.sget aa bbbb) :=
  encodedLength_of 2 rfl (lowByte_unit8 _ _) rfl rfl
theorem sgetWide (aa : BitVec 8) (bbbb : BitVec 16) : Statement (.sgetWide aa bbbb) :=
  encodedLength_of 2 rfl (lowByte_unit8 _ _) rfl rfl
theorem sgetObject (aa : BitVec 8) (bbbb : BitVec 16) : Statement (.sgetObject aa bbbb) :=
  encodedLength_of 2 rfl (lowByte_unit8 _ _) rfl rfl
theorem sgetBoolean (aa : BitVec 8) (bbbb : BitVec 16) : Statement (.sgetBoolean aa bbbb) :=
  encodedLength_of 2 rfl (lowByte_unit8 _ _) rfl rfl
theorem sgetByte (aa : BitVec 8) (bbbb : BitVec 16) : Statement (.sgetByte aa bbbb) :=
  encodedLength_of 2 rfl (lowByte_unit8 _ _) rfl rfl
theorem sgetChar (aa : BitVec 8) (bbbb : BitVec 16) : Statement (.sgetChar aa bbbb) :=
  encodedLength_of 2 rfl (lowByte_unit8 _ _) rfl rfl
theorem sgetShort (aa : BitVec 8) (bbbb : BitVec 16) : Statement (.sgetShort aa bbbb) :=
  encodedLength_of 2 rfl (lowByte_unit8 _ _) rfl rfl
theorem sput (aa : BitVec 8) (bbbb : BitVec 16) : Statement (.sput aa bbbb) :=
  encodedLength_of 2 rfl (lowByte_unit8 _ _) rfl rfl
theorem sputWide (aa : BitVec 8) (bbbb : BitVec 16) : Statement (.sputWide aa bbbb) :=
  encodedLength_of 2 rfl (lowByte_unit8 _ _) rfl rfl
theorem sputObject (aa : BitVec 8) (bbbb : BitVec 16) : Statement (.sputObject aa bbbb) :=
  encodedLength_of 2 rfl (lowByte_unit8 _ _) rfl rfl
theorem sputBoolean (aa : BitVec 8) (bbbb : BitVec 16) : Statement (.sputBoolean aa bbbb) :=
  encodedLength_of 2 rfl (lowByte_unit8 _ _) rfl rfl
theorem sputByte (aa : BitVec 8) (bbbb : BitVec 16) : Statement (.sputByte aa bbbb) :=
  encodedLength_of 2 rfl (lowByte_unit8 _ _) rfl rfl
theorem sputChar (aa : BitVec 8) (bbbb : BitVec 16) : Statement (.sputChar aa bbbb) :=
  encodedLength_of 2 rfl (lowByte_unit8 _ _) rfl rfl
theorem sputShort (aa : BitVec 8) (bbbb : BitVec 16) : Statement (.sputShort aa bbbb) :=
  encodedLength_of 2 rfl (lowByte_unit8 _ _) rfl rfl
theorem invokeVirtual (a : BitVec 4) (bbbb : BitVec 16) (c d e f g : BitVec 4) : Statement (.invokeVirtual a bbbb c d e f g) :=
  encodedLength_of 3 rfl (lowByte_unit4 _ _ _) rfl rfl
theorem invokeSuper (a : BitVec 4) (bbbb : BitVec 16) (c d e f g : BitVec 4) : Statement (.invokeSuper a bbbb c d e f g) :=
  encodedLength_of 3 rfl (lowByte_unit4 _ _ _) rfl rfl
theorem invokeDirect (a : BitVec 4) (bbbb : BitVec 16) (c d e f g : BitVec 4) : Statement (.invokeDirect a bbbb c d e f g) :=
  encodedLength_of 3 rfl (lowByte_unit4 _ _ _) rfl rfl
theorem invokeStatic (a : BitVec 4) (bbbb : BitVec 16) (c d e f g : BitVec 4) : Statement (.invokeStatic a bbbb c d e f g) :=
  encodedLength_of 3 rfl (lowByte_unit4 _ _ _) rfl rfl
theorem invokeInterface (a : BitVec 4) (bbbb : BitVec 16) (c d e f g : BitVec 4) : Statement (.invokeInterface a bbbb c d e f g) :=
  encodedLength_of 3 rfl (lowByte_unit4 _ _ _) rfl rfl
theorem unused73 : Statement .unused73 := encodedLength_of 1 rfl (lowByte_unit8 _ _) rfl rfl
theorem invokeVirtualRange (aa : BitVec 8) (bbbb cccc : BitVec 16) : Statement (.invokeVirtualRange aa bbbb cccc) :=
  encodedLength_of 3 rfl (lowByte_unit8 _ _) rfl rfl
theorem invokeSuperRange (aa : BitVec 8) (bbbb cccc : BitVec 16) : Statement (.invokeSuperRange aa bbbb cccc) :=
  encodedLength_of 3 rfl (lowByte_unit8 _ _) rfl rfl
theorem invokeDirectRange (aa : BitVec 8) (bbbb cccc : BitVec 16) : Statement (.invokeDirectRange aa bbbb cccc) :=
  encodedLength_of 3 rfl (lowByte_unit8 _ _) rfl rfl
theorem invokeStaticRange (aa : BitVec 8) (bbbb cccc : BitVec 16) : Statement (.invokeStaticRange aa bbbb cccc) :=
  encodedLength_of 3 rfl (lowByte_unit8 _ _) rfl rfl
theorem invokeInterfaceRange (aa : BitVec 8) (bbbb cccc : BitVec 16) : Statement (.invokeInterfaceRange aa bbbb cccc) :=
  encodedLength_of 3 rfl (lowByte_unit8 _ _) rfl rfl
theorem unused79 : Statement .unused79 := encodedLength_of 1 rfl (lowByte_unit8 _ _) rfl rfl
theorem unused7a : Statement .unused7a := encodedLength_of 1 rfl (lowByte_unit8 _ _) rfl rfl
theorem negInt (a b : BitVec 4) : Statement (.negInt a b) := encodedLength_of 1 rfl (lowByte_unit4 _ _ _) rfl rfl
theorem notInt (a b : BitVec 4) : Statement (.notInt a b) := encodedLength_of 1 rfl (lowByte_unit4 _ _ _) rfl rfl
theorem negLong (a b : BitVec 4) : Statement (.negLong a b) := encodedLength_of 1 rfl (lowByte_unit4 _ _ _) rfl rfl
theorem notLong (a b : BitVec 4) : Statement (.notLong a b) := encodedLength_of 1 rfl (lowByte_unit4 _ _ _) rfl rfl
theorem negFloat (a b : BitVec 4) : Statement (.negFloat a b) := encodedLength_of 1 rfl (lowByte_unit4 _ _ _) rfl rfl
theorem negDouble (a b : BitVec 4) : Statement (.negDouble a b) :=
  encodedLength_of 1 rfl (lowByte_unit4 _ _ _) rfl rfl
theorem intToLong (a b : BitVec 4) : Statement (.intToLong a b) :=
  encodedLength_of 1 rfl (lowByte_unit4 _ _ _) rfl rfl
theorem intToFloat (a b : BitVec 4) : Statement (.intToFloat a b) :=
  encodedLength_of 1 rfl (lowByte_unit4 _ _ _) rfl rfl
theorem intToDouble (a b : BitVec 4) : Statement (.intToDouble a b) :=
  encodedLength_of 1 rfl (lowByte_unit4 _ _ _) rfl rfl
theorem longToInt (a b : BitVec 4) : Statement (.longToInt a b) :=
  encodedLength_of 1 rfl (lowByte_unit4 _ _ _) rfl rfl
theorem longToFloat (a b : BitVec 4) : Statement (.longToFloat a b) :=
  encodedLength_of 1 rfl (lowByte_unit4 _ _ _) rfl rfl
theorem longToDouble (a b : BitVec 4) : Statement (.longToDouble a b) :=
  encodedLength_of 1 rfl (lowByte_unit4 _ _ _) rfl rfl
theorem floatToInt (a b : BitVec 4) : Statement (.floatToInt a b) :=
  encodedLength_of 1 rfl (lowByte_unit4 _ _ _) rfl rfl
theorem floatToLong (a b : BitVec 4) : Statement (.floatToLong a b) :=
  encodedLength_of 1 rfl (lowByte_unit4 _ _ _) rfl rfl
theorem floatToDouble (a b : BitVec 4) : Statement (.floatToDouble a b) :=
  encodedLength_of 1 rfl (lowByte_unit4 _ _ _) rfl rfl
theorem doubleToInt (a b : BitVec 4) : Statement (.doubleToInt a b) :=
  encodedLength_of 1 rfl (lowByte_unit4 _ _ _) rfl rfl
theorem doubleToLong (a b : BitVec 4) : Statement (.doubleToLong a b) :=
  encodedLength_of 1 rfl (lowByte_unit4 _ _ _) rfl rfl
theorem doubleToFloat (a b : BitVec 4) : Statement (.doubleToFloat a b) :=
  encodedLength_of 1 rfl (lowByte_unit4 _ _ _) rfl rfl
theorem intToByte (a b : BitVec 4) : Statement (.intToByte a b) :=
  encodedLength_of 1 rfl (lowByte_unit4 _ _ _) rfl rfl
theorem intToChar (a b : BitVec 4) : Statement (.intToChar a b) :=
  encodedLength_of 1 rfl (lowByte_unit4 _ _ _) rfl rfl
theorem intToShort (a b : BitVec 4) : Statement (.intToShort a b) :=
  encodedLength_of 1 rfl (lowByte_unit4 _ _ _) rfl rfl
theorem addInt (aa bb cc : BitVec 8) : Statement (.addInt aa bb cc) :=
  encodedLength_of 2 rfl (lowByte_unit8 _ _) rfl rfl
theorem subInt (aa bb cc : BitVec 8) : Statement (.subInt aa bb cc) :=
  encodedLength_of 2 rfl (lowByte_unit8 _ _) rfl rfl
theorem mulInt (aa bb cc : BitVec 8) : Statement (.mulInt aa bb cc) :=
  encodedLength_of 2 rfl (lowByte_unit8 _ _) rfl rfl
theorem divInt (aa bb cc : BitVec 8) : Statement (.divInt aa bb cc) :=
  encodedLength_of 2 rfl (lowByte_unit8 _ _) rfl rfl
theorem remInt (aa bb cc : BitVec 8) : Statement (.remInt aa bb cc) :=
  encodedLength_of 2 rfl (lowByte_unit8 _ _) rfl rfl
theorem andInt (aa bb cc : BitVec 8) : Statement (.andInt aa bb cc) :=
  encodedLength_of 2 rfl (lowByte_unit8 _ _) rfl rfl
theorem orInt (aa bb cc : BitVec 8) : Statement (.orInt aa bb cc) :=
  encodedLength_of 2 rfl (lowByte_unit8 _ _) rfl rfl
theorem xorInt (aa bb cc : BitVec 8) : Statement (.xorInt aa bb cc) :=
  encodedLength_of 2 rfl (lowByte_unit8 _ _) rfl rfl
theorem shlInt (aa bb cc : BitVec 8) : Statement (.shlInt aa bb cc) :=
  encodedLength_of 2 rfl (lowByte_unit8 _ _) rfl rfl
theorem shrInt (aa bb cc : BitVec 8) : Statement (.shrInt aa bb cc) :=
  encodedLength_of 2 rfl (lowByte_unit8 _ _) rfl rfl
theorem ushrInt (aa bb cc : BitVec 8) : Statement (.ushrInt aa bb cc) :=
  encodedLength_of 2 rfl (lowByte_unit8 _ _) rfl rfl
theorem addLong (aa bb cc : BitVec 8) : Statement (.addLong aa bb cc) :=
  encodedLength_of 2 rfl (lowByte_unit8 _ _) rfl rfl
theorem subLong (aa bb cc : BitVec 8) : Statement (.subLong aa bb cc) :=
  encodedLength_of 2 rfl (lowByte_unit8 _ _) rfl rfl
theorem mulLong (aa bb cc : BitVec 8) : Statement (.mulLong aa bb cc) :=
  encodedLength_of 2 rfl (lowByte_unit8 _ _) rfl rfl
theorem divLong (aa bb cc : BitVec 8) : Statement (.divLong aa bb cc) :=
  encodedLength_of 2 rfl (lowByte_unit8 _ _) rfl rfl
theorem remLong (aa bb cc : BitVec 8) : Statement (.remLong aa bb cc) :=
  encodedLength_of 2 rfl (lowByte_unit8 _ _) rfl rfl
theorem andLong (aa bb cc : BitVec 8) : Statement (.andLong aa bb cc) :=
  encodedLength_of 2 rfl (lowByte_unit8 _ _) rfl rfl
theorem orLong (aa bb cc : BitVec 8) : Statement (.orLong aa bb cc) :=
  encodedLength_of 2 rfl (lowByte_unit8 _ _) rfl rfl
theorem xorLong (aa bb cc : BitVec 8) : Statement (.xorLong aa bb cc) :=
  encodedLength_of 2 rfl (lowByte_unit8 _ _) rfl rfl
theorem shlLong (aa bb cc : BitVec 8) : Statement (.shlLong aa bb cc) :=
  encodedLength_of 2 rfl (lowByte_unit8 _ _) rfl rfl
theorem shrLong (aa bb cc : BitVec 8) : Statement (.shrLong aa bb cc) :=
  encodedLength_of 2 rfl (lowByte_unit8 _ _) rfl rfl
theorem ushrLong (aa bb cc : BitVec 8) : Statement (.ushrLong aa bb cc) :=
  encodedLength_of 2 rfl (lowByte_unit8 _ _) rfl rfl
theorem addFloat (aa bb cc : BitVec 8) : Statement (.addFloat aa bb cc) :=
  encodedLength_of 2 rfl (lowByte_unit8 _ _) rfl rfl
theorem subFloat (aa bb cc : BitVec 8) : Statement (.subFloat aa bb cc) :=
  encodedLength_of 2 rfl (lowByte_unit8 _ _) rfl rfl
theorem mulFloat (aa bb cc : BitVec 8) : Statement (.mulFloat aa bb cc) :=
  encodedLength_of 2 rfl (lowByte_unit8 _ _) rfl rfl
theorem divFloat (aa bb cc : BitVec 8) : Statement (.divFloat aa bb cc) :=
  encodedLength_of 2 rfl (lowByte_unit8 _ _) rfl rfl
theorem remFloat (aa bb cc : BitVec 8) : Statement (.remFloat aa bb cc) :=
  encodedLength_of 2 rfl (lowByte_unit8 _ _) rfl rfl
theorem addDouble (aa bb cc : BitVec 8) : Statement (.addDouble aa bb cc) :=
  encodedLength_of 2 rfl (lowByte_unit8 _ _) rfl rfl
theorem subDouble (aa bb cc : BitVec 8) : Statement (.subDouble aa bb cc) :=
  encodedLength_of 2 rfl (lowByte_unit8 _ _) rfl rfl
theorem mulDouble (aa bb cc : BitVec 8) : Statement (.mulDouble aa bb cc) :=
  encodedLength_of 2 rfl (lowByte_unit8 _ _) rfl rfl
theorem divDouble (aa bb cc : BitVec 8) : Statement (.divDouble aa bb cc) :=
  encodedLength_of 2 rfl (lowByte_unit8 _ _) rfl rfl
theorem remDouble (aa bb cc : BitVec 8) : Statement (.remDouble aa bb cc) :=
  encodedLength_of 2 rfl (lowByte_unit8 _ _) rfl rfl
theorem addInt2addr (a b : BitVec 4) : Statement (.addInt2addr a b) :=
  encodedLength_of 1 rfl (lowByte_unit4 _ _ _) rfl rfl
theorem subInt2addr (a b : BitVec 4) : Statement (.subInt2addr a b) :=
  encodedLength_of 1 rfl (lowByte_unit4 _ _ _) rfl rfl
theorem mulInt2addr (a b : BitVec 4) : Statement (.mulInt2addr a b) :=
  encodedLength_of 1 rfl (lowByte_unit4 _ _ _) rfl rfl
theorem divInt2addr (a b : BitVec 4) : Statement (.divInt2addr a b) :=
  encodedLength_of 1 rfl (lowByte_unit4 _ _ _) rfl rfl
theorem remInt2addr (a b : BitVec 4) : Statement (.remInt2addr a b) :=
  encodedLength_of 1 rfl (lowByte_unit4 _ _ _) rfl rfl
theorem andInt2addr (a b : BitVec 4) : Statement (.andInt2addr a b) :=
  encodedLength_of 1 rfl (lowByte_unit4 _ _ _) rfl rfl
theorem orInt2addr (a b : BitVec 4) : Statement (.orInt2addr a b) :=
  encodedLength_of 1 rfl (lowByte_unit4 _ _ _) rfl rfl
theorem xorInt2addr (a b : BitVec 4) : Statement (.xorInt2addr a b) :=
  encodedLength_of 1 rfl (lowByte_unit4 _ _ _) rfl rfl
theorem shlInt2addr (a b : BitVec 4) : Statement (.shlInt2addr a b) :=
  encodedLength_of 1 rfl (lowByte_unit4 _ _ _) rfl rfl
theorem shrInt2addr (a b : BitVec 4) : Statement (.shrInt2addr a b) :=
  encodedLength_of 1 rfl (lowByte_unit4 _ _ _) rfl rfl
theorem ushrInt2addr (a b : BitVec 4) : Statement (.ushrInt2addr a b) :=
  encodedLength_of 1 rfl (lowByte_unit4 _ _ _) rfl rfl
theorem addLong2addr (a b : BitVec 4) : Statement (.addLong2addr a b) :=
  encodedLength_of 1 rfl (lowByte_unit4 _ _ _) rfl rfl
theorem subLong2addr (a b : BitVec 4) : Statement (.subLong2addr a b) :=
  encodedLength_of 1 rfl (lowByte_unit4 _ _ _) rfl rfl
theorem mulLong2addr (a b : BitVec 4) : Statement (.mulLong2addr a b) :=
  encodedLength_of 1 rfl (lowByte_unit4 _ _ _) rfl rfl
theorem divLong2addr (a b : BitVec 4) : Statement (.divLong2addr a b) :=
  encodedLength_of 1 rfl (lowByte_unit4 _ _ _) rfl rfl
theorem remLong2addr (a b : BitVec 4) : Statement (.remLong2addr a b) :=
  encodedLength_of 1 rfl (lowByte_unit4 _ _ _) rfl rfl
theorem andLong2addr (a b : BitVec 4) : Statement (.andLong2addr a b) :=
  encodedLength_of 1 rfl (lowByte_unit4 _ _ _) rfl rfl
theorem orLong2addr (a b : BitVec 4) : Statement (.orLong2addr a b) :=
  encodedLength_of 1 rfl (lowByte_unit4 _ _ _) rfl rfl
theorem xorLong2addr (a b : BitVec 4) : Statement (.xorLong2addr a b) :=
  encodedLength_of 1 rfl (lowByte_unit4 _ _ _) rfl rfl
theorem shlLong2addr (a b : BitVec 4) : Statement (.shlLong2addr a b) :=
  encodedLength_of 1 rfl (lowByte_unit4 _ _ _) rfl rfl
theorem shrLong2addr (a b : BitVec 4) : Statement (.shrLong2addr a b) :=
  encodedLength_of 1 rfl (lowByte_unit4 _ _ _) rfl rfl
theorem ushrLong2addr (a b : BitVec 4) : Statement (.ushrLong2addr a b) :=
  encodedLength_of 1 rfl (lowByte_unit4 _ _ _) rfl rfl
theorem addFloat2addr (a b : BitVec 4) : Statement (.addFloat2addr a b) :=
  encodedLength_of 1 rfl (lowByte_unit4 _ _ _) rfl rfl
theorem subFloat2addr (a b : BitVec 4) : Statement (.subFloat2addr a b) :=
  encodedLength_of 1 rfl (lowByte_unit4 _ _ _) rfl rfl
theorem mulFloat2addr (a b : BitVec 4) : Statement (.mulFloat2addr a b) :=
  encodedLength_of 1 rfl (lowByte_unit4 _ _ _) rfl rfl
theorem divFloat2addr (a b : BitVec 4) : Statement (.divFloat2addr a b) :=
  encodedLength_of 1 rfl (lowByte_unit4 _ _ _) rfl rfl
theorem remFloat2addr (a b : BitVec 4) : Statement (.remFloat2addr a b) :=
  encodedLength_of 1 rfl (lowByte_unit4 _ _ _) rfl rfl
theorem addDouble2addr (a b : BitVec 4) : Statement (.addDouble2addr a b) :=
  encodedLength_of 1 rfl (lowByte_unit4 _ _ _) rfl rfl
theorem subDouble2addr (a b : BitVec 4) : Statement (.subDouble2addr a b) :=
  encodedLength_of 1 rfl (lowByte_unit4 _ _ _) rfl rfl
theorem mulDouble2addr (a b : BitVec 4) : Statement (.mulDouble2addr a b) :=
  encodedLength_of 1 rfl (lowByte_unit4 _ _ _) rfl rfl
theorem divDouble2addr (a b : BitVec 4) : Statement (.divDouble2addr a b) :=
  encodedLength_of 1 rfl (lowByte_unit4 _ _ _) rfl rfl
theorem remDouble2addr (a b : BitVec 4) : Statement (.remDouble2addr a b) :=
  encodedLength_of 1 rfl (lowByte_unit4 _ _ _) rfl rfl
theorem addIntLit16 (a b : BitVec 4) (cccc : BitVec 16) : Statement (.addIntLit16 a b cccc) :=
  encodedLength_of 2 rfl (lowByte_unit4 _ _ _) rfl rfl
theorem rsubInt (a b : BitVec 4) (cccc : BitVec 16) : Statement (.rsubInt a b cccc) :=
  encodedLength_of 2 rfl (lowByte_unit4 _ _ _) rfl rfl
theorem mulIntLit16 (a b : BitVec 4) (cccc : BitVec 16) : Statement (.mulIntLit16 a b cccc) :=
  encodedLength_of 2 rfl (lowByte_unit4 _ _ _) rfl rfl
theorem divIntLit16 (a b : BitVec 4) (cccc : BitVec 16) : Statement (.divIntLit16 a b cccc) :=
  encodedLength_of 2 rfl (lowByte_unit4 _ _ _) rfl rfl
theorem remIntLit16 (a b : BitVec 4) (cccc : BitVec 16) : Statement (.remIntLit16 a b cccc) :=
  encodedLength_of 2 rfl (lowByte_unit4 _ _ _) rfl rfl
theorem andIntLit16 (a b : BitVec 4) (cccc : BitVec 16) : Statement (.andIntLit16 a b cccc) :=
  encodedLength_of 2 rfl (lowByte_unit4 _ _ _) rfl rfl
theorem orIntLit16 (a b : BitVec 4) (cccc : BitVec 16) : Statement (.orIntLit16 a b cccc) :=
  encodedLength_of 2 rfl (lowByte_unit4 _ _ _) rfl rfl
theorem xorIntLit16 (a b : BitVec 4) (cccc : BitVec 16) : Statement (.xorIntLit16 a b cccc) :=
  encodedLength_of 2 rfl (lowByte_unit4 _ _ _) rfl rfl
theorem addIntLit8 (aa bb cc : BitVec 8) : Statement (.addIntLit8 aa bb cc) :=
  encodedLength_of 2 rfl (lowByte_unit8 _ _) rfl rfl
theorem rsubIntLit8 (aa bb cc : BitVec 8) : Statement (.rsubIntLit8 aa bb cc) :=
  encodedLength_of 2 rfl (lowByte_unit8 _ _) rfl rfl
theorem mulIntLit8 (aa bb cc : BitVec 8) : Statement (.mulIntLit8 aa bb cc) :=
  encodedLength_of 2 rfl (lowByte_unit8 _ _) rfl rfl
theorem divIntLit8 (aa bb cc : BitVec 8) : Statement (.divIntLit8 aa bb cc) :=
  encodedLength_of 2 rfl (lowByte_unit8 _ _) rfl rfl
theorem remIntLit8 (aa bb cc : BitVec 8) : Statement (.remIntLit8 aa bb cc) :=
  encodedLength_of 2 rfl (lowByte_unit8 _ _) rfl rfl
theorem andIntLit8 (aa bb cc : BitVec 8) : Statement (.andIntLit8 aa bb cc) :=
  encodedLength_of 2 rfl (lowByte_unit8 _ _) rfl rfl
theorem orIntLit8 (aa bb cc : BitVec 8) : Statement (.orIntLit8 aa bb cc) :=
  encodedLength_of 2 rfl (lowByte_unit8 _ _) rfl rfl
theorem xorIntLit8 (aa bb cc : BitVec 8) : Statement (.xorIntLit8 aa bb cc) :=
  encodedLength_of 2 rfl (lowByte_unit8 _ _) rfl rfl
theorem shlIntLit8 (aa bb cc : BitVec 8) : Statement (.shlIntLit8 aa bb cc) :=
  encodedLength_of 2 rfl (lowByte_unit8 _ _) rfl rfl
theorem shrIntLit8 (aa bb cc : BitVec 8) : Statement (.shrIntLit8 aa bb cc) :=
  encodedLength_of 2 rfl (lowByte_unit8 _ _) rfl rfl
theorem ushrIntLit8 (aa bb cc : BitVec 8) : Statement (.ushrIntLit8 aa bb cc) :=
  encodedLength_of 2 rfl (lowByte_unit8 _ _) rfl rfl
theorem unusedE3 : Statement .unusedE3 := encodedLength_of 1 rfl (lowByte_unit8 _ _) rfl rfl
theorem unusedE4 : Statement .unusedE4 := encodedLength_of 1 rfl (lowByte_unit8 _ _) rfl rfl
theorem unusedE5 : Statement .unusedE5 := encodedLength_of 1 rfl (lowByte_unit8 _ _) rfl rfl
theorem unusedE6 : Statement .unusedE6 := encodedLength_of 1 rfl (lowByte_unit8 _ _) rfl rfl
theorem unusedE7 : Statement .unusedE7 := encodedLength_of 1 rfl (lowByte_unit8 _ _) rfl rfl
theorem unusedE8 : Statement .unusedE8 := encodedLength_of 1 rfl (lowByte_unit8 _ _) rfl rfl
theorem unusedE9 : Statement .unusedE9 := encodedLength_of 1 rfl (lowByte_unit8 _ _) rfl rfl
theorem unusedEa : Statement .unusedEa := encodedLength_of 1 rfl (lowByte_unit8 _ _) rfl rfl
theorem unusedEb : Statement .unusedEb := encodedLength_of 1 rfl (lowByte_unit8 _ _) rfl rfl
theorem unusedEc : Statement .unusedEc := encodedLength_of 1 rfl (lowByte_unit8 _ _) rfl rfl
theorem unusedEd : Statement .unusedEd := encodedLength_of 1 rfl (lowByte_unit8 _ _) rfl rfl
theorem unusedEe : Statement .unusedEe := encodedLength_of 1 rfl (lowByte_unit8 _ _) rfl rfl
theorem unusedEf : Statement .unusedEf := encodedLength_of 1 rfl (lowByte_unit8 _ _) rfl rfl
theorem unusedF0 : Statement .unusedF0 := encodedLength_of 1 rfl (lowByte_unit8 _ _) rfl rfl
theorem unusedF1 : Statement .unusedF1 := encodedLength_of 1 rfl (lowByte_unit8 _ _) rfl rfl
theorem unusedF2 : Statement .unusedF2 := encodedLength_of 1 rfl (lowByte_unit8 _ _) rfl rfl
theorem unusedF3 : Statement .unusedF3 := encodedLength_of 1 rfl (lowByte_unit8 _ _) rfl rfl
theorem unusedF4 : Statement .unusedF4 := encodedLength_of 1 rfl (lowByte_unit8 _ _) rfl rfl
theorem unusedF5 : Statement .unusedF5 := encodedLength_of 1 rfl (lowByte_unit8 _ _) rfl rfl
theorem unusedF6 : Statement .unusedF6 := encodedLength_of 1 rfl (lowByte_unit8 _ _) rfl rfl
theorem unusedF7 : Statement .unusedF7 := encodedLength_of 1 rfl (lowByte_unit8 _ _) rfl rfl
theorem unusedF8 : Statement .unusedF8 := encodedLength_of 1 rfl (lowByte_unit8 _ _) rfl rfl
theorem unusedF9 : Statement .unusedF9 := encodedLength_of 1 rfl (lowByte_unit8 _ _) rfl rfl
theorem unusedFa : Statement .unusedFa := encodedLength_of 1 rfl (lowByte_unit8 _ _) rfl rfl
theorem unusedFb : Statement .unusedFb := encodedLength_of 1 rfl (lowByte_unit8 _ _) rfl rfl
theorem unusedFc : Statement .unusedFc := encodedLength_of 1 rfl (lowByte_unit8 _ _) rfl rfl
theorem unusedFd : Statement .unusedFd := encodedLength_of 1 rfl (lowByte_unit8 _ _) rfl rfl
theorem unusedFe : Statement .unusedFe := encodedLength_of 1 rfl (lowByte_unit8 _ _) rfl rfl
theorem unusedFf : Statement .unusedFf := encodedLength_of 1 rfl (lowByte_unit8 _ _) rfl rfl

end Sys2Proof.Laws.EncodedLength
end

