-- ==== Sys2Proof/WellFormed.lean ====
section
/-! DEFINITION. Which instructions a well-formed image holds: an assigned opcode (spec/30_encoding.md R128) and, in the
packed format 35c, an argument-word count of at most five (R156). The engine runs the others too: an unassigned opcode
takes the trap handler, a larger count faults F9. -/

namespace Sys2Proof

/-- The opcode is one of the 218 assigned ones (R127, R128). -/
def Instr.assigned (i : Instr) : Bool :=
  match i with
  | .unused3e => false
  | .unused3f => false
  | .unused40 => false
  | .unused41 => false
  | .unused42 => false
  | .unused43 => false
  | .unused73 => false
  | .unused79 => false
  | .unused7a => false
  | .unusedE3 => false
  | .unusedE4 => false
  | .unusedE5 => false
  | .unusedE6 => false
  | .unusedE7 => false
  | .unusedE8 => false
  | .unusedE9 => false
  | .unusedEa => false
  | .unusedEb => false
  | .unusedEc => false
  | .unusedEd => false
  | .unusedEe => false
  | .unusedEf => false
  | .unusedF0 => false
  | .unusedF1 => false
  | .unusedF2 => false
  | .unusedF3 => false
  | .unusedF4 => false
  | .unusedF5 => false
  | .unusedF6 => false
  | .unusedF7 => false
  | .unusedF8 => false
  | .unusedF9 => false
  | .unusedFa => false
  | .unusedFb => false
  | .unusedFc => false
  | .unusedFd => false
  | .unusedFe => false
  | .unusedFf => false
  | _ => true

/-- The argument-word count of a packed instruction is legal (R156). -/
def Instr.countLegal (i : Instr) : Bool :=
  match i with
  | .filledNewArray a _ _ _ _ _ _ => a.toNat ≤ 5
  | .invokeVirtual a _ _ _ _ _ _ => a.toNat ≤ 5
  | .invokeSuper a _ _ _ _ _ _ => a.toNat ≤ 5
  | .invokeDirect a _ _ _ _ _ _ => a.toNat ≤ 5
  | .invokeStatic a _ _ _ _ _ _ => a.toNat ≤ 5
  | .invokeInterface a _ _ _ _ _ _ => a.toNat ≤ 5
  | _ => true

/-- An instruction of a well-formed image. -/
def Instr.wf (i : Instr) : Bool := i.assigned && i.countLegal

end Sys2Proof
end

