-- ==== Sys2Proof/Tests/Slice0.lean ====
section
/-! SUPPORT. The model's own tests. Every expected value is written out from spec/: an encoding from R135 to R158, a vector
from spec/95_test_vectors.md (its name stands in the docstring), or a hand calculation. The witnesses at the end show, for
each statement with hypotheses, concrete data that meet them. -/

namespace Sys2Proof.Tests
-- One theorem at a time: two hundred kernel evaluations at once ask for two hundred stacks.
set_option Elab.async false
open Sys2Proof.Machine

/-! ### WellFormed -/

theorem test_wf_nop : Instr.nop.wf = true := by decide
theorem test_wf_refuses_unassigned : Instr.unused3e.wf = false := by decide
theorem test_wf_refuses_count : (Instr.invokeVirtual 6 0 0 0 0 0 0).wf = false := by decide
theorem test_wf_refuses_filled_count : (Instr.filledNewArray 6 0 0 0 0 0 0).wf = false := by decide
theorem test_wf_count_five : (Instr.invokeStatic 5 0 0 0 0 0 0).wf = true := by decide

/-! ### Decoding: one word of every opcode, its fields all different -/

/-- Each list of units decodes to the instruction beside it. -/
def decodes (words : List (List CodeUnit)) (instrs : List (Except DecodeError Instr)) : Bool :=
  words.length == instrs.length && (words.zip instrs).all fun p =>
    match decode p.1, p.2 with
    | .ok i, .ok j => decide (i = j)
    | _, _ => false

/-- Opcodes 0x00 to 0x0f. -/
theorem test_decode_00 : decodes [
    [0x0000], [0x9201], [0x3a02, 0x8123], [0x0003, 0x8123, 0x4567], [0x9204], [0x3a05, 0x8123],
    [0x0006, 0x8123, 0x4567], [0x9207], [0x3a08, 0x8123], [0x0009, 0x8123, 0x4567], [0x3a0a], [0x3a0b], [0x3a0c],
    [0x3a0d], [0x000e], [0x3a0f]] [
    .ok .nop, .ok (.move 2 9), .ok (.moveFrom16 0x3a 0x8123), .ok (.move16 0x8123 0x4567), .ok (.moveWide 2 9),
    .ok (.moveWideFrom16 0x3a 0x8123), .ok (.moveWide16 0x8123 0x4567), .ok (.moveObject 2 9),
    .ok (.moveObjectFrom16 0x3a 0x8123), .ok (.moveObject16 0x8123 0x4567), .ok (.moveResult 0x3a),
    .ok (.moveResultWide 0x3a), .ok (.moveResultObject 0x3a), .ok (.moveException 0x3a), .ok .returnVoid,
    .ok (.returnVal 0x3a)] = true := by decide +kernel

/-- Opcodes 0x10 to 0x1f. -/
theorem test_decode_10 : decodes [
    [0x3a10], [0x3a11], [0x9212], [0x3a13, 0x8123], [0x3a14, 0x4567, 0x8123], [0x3a15, 0x8123], [0x3a16, 0x8123],
    [0x3a17, 0x4567, 0x8123], [0x3a18, 0xcdef, 0x89ab, 0x4567, 0x0123], [0x3a19, 0x8123], [0x3a1a, 0x8123],
    [0x3a1b, 0x4567, 0x8123], [0x3a1c, 0x8123], [0x3a1d], [0x3a1e], [0x3a1f, 0x8123]] [
    .ok (.returnWide 0x3a), .ok (.returnObject 0x3a), .ok (.const4 2 9), .ok (.const16 0x3a 0x8123),
    .ok (.const32 0x3a 0x81234567), .ok (.constHigh16 0x3a 0x8123), .ok (.constWide16 0x3a 0x8123),
    .ok (.constWide32 0x3a 0x81234567), .ok (.constWide 0x3a 0x123456789abcdef), .ok (.constWideHigh16 0x3a 0x8123),
    .ok (.constString 0x3a 0x8123), .ok (.constStringJumbo 0x3a 0x81234567), .ok (.constClass 0x3a 0x8123),
    .ok (.monitorEnter 0x3a), .ok (.monitorExit 0x3a), .ok (.checkCast 0x3a 0x8123)] = true := by decide +kernel

/-- Opcodes 0x20 to 0x2f. -/
theorem test_decode_20 : decodes [
    [0x9220, 0x8123], [0x9221], [0x3a22, 0x8123], [0x9223, 0x8123], [0x5124, 0x8123, 0x6d43],
    [0x3a25, 0x8123, 0x4567], [0x3a26, 0x4567, 0x8123], [0x3a27], [0x3a28], [0x0029, 0x8123],
    [0x002a, 0x4567, 0x8123], [0x3a2b, 0x4567, 0x8123], [0x3a2c, 0x4567, 0x8123], [0x3a2d, 0xc54b], [0x3a2e, 0xc54b],
    [0x3a2f, 0xc54b]] [
    .ok (.instanceOf 2 9 0x8123), .ok (.arrayLength 2 9), .ok (.newInstance 0x3a 0x8123), .ok (.newArray 2 9 0x8123),
    .ok (.filledNewArray 5 0x8123 3 4 0xd 6 1), .ok (.filledNewArrayRange 0x3a 0x8123 0x4567),
    .ok (.fillArrayData 0x3a 0x81234567), .ok (.throwObj 0x3a), .ok (.goto 0x3a), .ok (.goto16 0x8123),
    .ok (.goto32 0x81234567), .ok (.packedSwitch 0x3a 0x81234567), .ok (.sparseSwitch 0x3a 0x81234567),
    .ok (.cmplFloat 0x3a 0x4b 0xc5), .ok (.cmpgFloat 0x3a 0x4b 0xc5), .ok (.cmplDouble 0x3a 0x4b 0xc5)] = true := by decide +kernel

/-- Opcodes 0x30 to 0x3f. -/
theorem test_decode_30 : decodes [
    [0x3a30, 0xc54b], [0x3a31, 0xc54b], [0x9232, 0x8123], [0x9233, 0x8123], [0x9234, 0x8123], [0x9235, 0x8123],
    [0x9236, 0x8123], [0x9237, 0x8123], [0x3a38, 0x8123], [0x3a39, 0x8123], [0x3a3a, 0x8123], [0x3a3b, 0x8123],
    [0x3a3c, 0x8123], [0x3a3d, 0x8123], [0xab3e], [0xab3f]] [
    .ok (.cmpgDouble 0x3a 0x4b 0xc5), .ok (.cmpLong 0x3a 0x4b 0xc5), .ok (.ifEq 2 9 0x8123), .ok (.ifNe 2 9 0x8123),
    .ok (.ifLt 2 9 0x8123), .ok (.ifGe 2 9 0x8123), .ok (.ifGt 2 9 0x8123), .ok (.ifLe 2 9 0x8123),
    .ok (.ifEqz 0x3a 0x8123), .ok (.ifNez 0x3a 0x8123), .ok (.ifLtz 0x3a 0x8123), .ok (.ifGez 0x3a 0x8123),
    .ok (.ifGtz 0x3a 0x8123), .ok (.ifLez 0x3a 0x8123), .ok .unused3e, .ok .unused3f] = true := by decide +kernel

/-- Opcodes 0x40 to 0x4f. -/
theorem test_decode_40 : decodes [
    [0xab40], [0xab41], [0xab42], [0xab43], [0x3a44, 0xc54b], [0x3a45, 0xc54b], [0x3a46, 0xc54b], [0x3a47, 0xc54b],
    [0x3a48, 0xc54b], [0x3a49, 0xc54b], [0x3a4a, 0xc54b], [0x3a4b, 0xc54b], [0x3a4c, 0xc54b], [0x3a4d, 0xc54b],
    [0x3a4e, 0xc54b], [0x3a4f, 0xc54b]] [
    .ok .unused40, .ok .unused41, .ok .unused42, .ok .unused43, .ok (.aget 0x3a 0x4b 0xc5),
    .ok (.agetWide 0x3a 0x4b 0xc5), .ok (.agetObject 0x3a 0x4b 0xc5), .ok (.agetBoolean 0x3a 0x4b 0xc5),
    .ok (.agetByte 0x3a 0x4b 0xc5), .ok (.agetChar 0x3a 0x4b 0xc5), .ok (.agetShort 0x3a 0x4b 0xc5),
    .ok (.aput 0x3a 0x4b 0xc5), .ok (.aputWide 0x3a 0x4b 0xc5), .ok (.aputObject 0x3a 0x4b 0xc5),
    .ok (.aputBoolean 0x3a 0x4b 0xc5), .ok (.aputByte 0x3a 0x4b 0xc5)] = true := by decide +kernel

/-- Opcodes 0x50 to 0x5f. -/
theorem test_decode_50 : decodes [
    [0x3a50, 0xc54b], [0x3a51, 0xc54b], [0x9252, 0x8123], [0x9253, 0x8123], [0x9254, 0x8123], [0x9255, 0x8123],
    [0x9256, 0x8123], [0x9257, 0x8123], [0x9258, 0x8123], [0x9259, 0x8123], [0x925a, 0x8123], [0x925b, 0x8123],
    [0x925c, 0x8123], [0x925d, 0x8123], [0x925e, 0x8123], [0x925f, 0x8123]] [
    .ok (.aputChar 0x3a 0x4b 0xc5), .ok (.aputShort 0x3a 0x4b 0xc5), .ok (.iget 2 9 0x8123),
    .ok (.igetWide 2 9 0x8123), .ok (.igetObject 2 9 0x8123), .ok (.igetBoolean 2 9 0x8123),
    .ok (.igetByte 2 9 0x8123), .ok (.igetChar 2 9 0x8123), .ok (.igetShort 2 9 0x8123), .ok (.iput 2 9 0x8123),
    .ok (.iputWide 2 9 0x8123), .ok (.iputObject 2 9 0x8123), .ok (.iputBoolean 2 9 0x8123),
    .ok (.iputByte 2 9 0x8123), .ok (.iputChar 2 9 0x8123), .ok (.iputShort 2 9 0x8123)] = true := by decide +kernel

/-- Opcodes 0x60 to 0x6f. -/
theorem test_decode_60 : decodes [
    [0x3a60, 0x8123], [0x3a61, 0x8123], [0x3a62, 0x8123], [0x3a63, 0x8123], [0x3a64, 0x8123], [0x3a65, 0x8123],
    [0x3a66, 0x8123], [0x3a67, 0x8123], [0x3a68, 0x8123], [0x3a69, 0x8123], [0x3a6a, 0x8123], [0x3a6b, 0x8123],
    [0x3a6c, 0x8123], [0x3a6d, 0x8123], [0x516e, 0x8123, 0x6d43], [0x516f, 0x8123, 0x6d43]] [
    .ok (.sget 0x3a 0x8123), .ok (.sgetWide 0x3a 0x8123), .ok (.sgetObject 0x3a 0x8123),
    .ok (.sgetBoolean 0x3a 0x8123), .ok (.sgetByte 0x3a 0x8123), .ok (.sgetChar 0x3a 0x8123),
    .ok (.sgetShort 0x3a 0x8123), .ok (.sput 0x3a 0x8123), .ok (.sputWide 0x3a 0x8123),
    .ok (.sputObject 0x3a 0x8123), .ok (.sputBoolean 0x3a 0x8123), .ok (.sputByte 0x3a 0x8123),
    .ok (.sputChar 0x3a 0x8123), .ok (.sputShort 0x3a 0x8123), .ok (.invokeVirtual 5 0x8123 3 4 0xd 6 1),
    .ok (.invokeSuper 5 0x8123 3 4 0xd 6 1)] = true := by decide +kernel

/-- Opcodes 0x70 to 0x7f. -/
theorem test_decode_70 : decodes [
    [0x5170, 0x8123, 0x6d43], [0x5171, 0x8123, 0x6d43], [0x5172, 0x8123, 0x6d43], [0xab73], [0x3a74, 0x8123, 0x4567],
    [0x3a75, 0x8123, 0x4567], [0x3a76, 0x8123, 0x4567], [0x3a77, 0x8123, 0x4567], [0x3a78, 0x8123, 0x4567], [0xab79],
    [0xab7a], [0x927b], [0x927c], [0x927d], [0x927e], [0x927f]] [
    .ok (.invokeDirect 5 0x8123 3 4 0xd 6 1), .ok (.invokeStatic 5 0x8123 3 4 0xd 6 1),
    .ok (.invokeInterface 5 0x8123 3 4 0xd 6 1), .ok .unused73, .ok (.invokeVirtualRange 0x3a 0x8123 0x4567),
    .ok (.invokeSuperRange 0x3a 0x8123 0x4567), .ok (.invokeDirectRange 0x3a 0x8123 0x4567),
    .ok (.invokeStaticRange 0x3a 0x8123 0x4567), .ok (.invokeInterfaceRange 0x3a 0x8123 0x4567), .ok .unused79,
    .ok .unused7a, .ok (.negInt 2 9), .ok (.notInt 2 9), .ok (.negLong 2 9), .ok (.notLong 2 9), .ok (.negFloat 2 9)] = true := by decide +kernel

/-- Opcodes 0x80 to 0x8f. -/
theorem test_decode_80 : decodes [
    [0x9280], [0x9281], [0x9282], [0x9283], [0x9284], [0x9285], [0x9286], [0x9287], [0x9288], [0x9289], [0x928a],
    [0x928b], [0x928c], [0x928d], [0x928e], [0x928f]] [
    .ok (.negDouble 2 9), .ok (.intToLong 2 9), .ok (.intToFloat 2 9), .ok (.intToDouble 2 9), .ok (.longToInt 2 9),
    .ok (.longToFloat 2 9), .ok (.longToDouble 2 9), .ok (.floatToInt 2 9), .ok (.floatToLong 2 9),
    .ok (.floatToDouble 2 9), .ok (.doubleToInt 2 9), .ok (.doubleToLong 2 9), .ok (.doubleToFloat 2 9),
    .ok (.intToByte 2 9), .ok (.intToChar 2 9), .ok (.intToShort 2 9)] = true := by decide +kernel

/-- Opcodes 0x90 to 0x9f. -/
theorem test_decode_90 : decodes [
    [0x3a90, 0xc54b], [0x3a91, 0xc54b], [0x3a92, 0xc54b], [0x3a93, 0xc54b], [0x3a94, 0xc54b], [0x3a95, 0xc54b],
    [0x3a96, 0xc54b], [0x3a97, 0xc54b], [0x3a98, 0xc54b], [0x3a99, 0xc54b], [0x3a9a, 0xc54b], [0x3a9b, 0xc54b],
    [0x3a9c, 0xc54b], [0x3a9d, 0xc54b], [0x3a9e, 0xc54b], [0x3a9f, 0xc54b]] [
    .ok (.addInt 0x3a 0x4b 0xc5), .ok (.subInt 0x3a 0x4b 0xc5), .ok (.mulInt 0x3a 0x4b 0xc5),
    .ok (.divInt 0x3a 0x4b 0xc5), .ok (.remInt 0x3a 0x4b 0xc5), .ok (.andInt 0x3a 0x4b 0xc5),
    .ok (.orInt 0x3a 0x4b 0xc5), .ok (.xorInt 0x3a 0x4b 0xc5), .ok (.shlInt 0x3a 0x4b 0xc5),
    .ok (.shrInt 0x3a 0x4b 0xc5), .ok (.ushrInt 0x3a 0x4b 0xc5), .ok (.addLong 0x3a 0x4b 0xc5),
    .ok (.subLong 0x3a 0x4b 0xc5), .ok (.mulLong 0x3a 0x4b 0xc5), .ok (.divLong 0x3a 0x4b 0xc5),
    .ok (.remLong 0x3a 0x4b 0xc5)] = true := by decide +kernel

/-- Opcodes 0xa0 to 0xaf. -/
theorem test_decode_a0 : decodes [
    [0x3aa0, 0xc54b], [0x3aa1, 0xc54b], [0x3aa2, 0xc54b], [0x3aa3, 0xc54b], [0x3aa4, 0xc54b], [0x3aa5, 0xc54b],
    [0x3aa6, 0xc54b], [0x3aa7, 0xc54b], [0x3aa8, 0xc54b], [0x3aa9, 0xc54b], [0x3aaa, 0xc54b], [0x3aab, 0xc54b],
    [0x3aac, 0xc54b], [0x3aad, 0xc54b], [0x3aae, 0xc54b], [0x3aaf, 0xc54b]] [
    .ok (.andLong 0x3a 0x4b 0xc5), .ok (.orLong 0x3a 0x4b 0xc5), .ok (.xorLong 0x3a 0x4b 0xc5),
    .ok (.shlLong 0x3a 0x4b 0xc5), .ok (.shrLong 0x3a 0x4b 0xc5), .ok (.ushrLong 0x3a 0x4b 0xc5),
    .ok (.addFloat 0x3a 0x4b 0xc5), .ok (.subFloat 0x3a 0x4b 0xc5), .ok (.mulFloat 0x3a 0x4b 0xc5),
    .ok (.divFloat 0x3a 0x4b 0xc5), .ok (.remFloat 0x3a 0x4b 0xc5), .ok (.addDouble 0x3a 0x4b 0xc5),
    .ok (.subDouble 0x3a 0x4b 0xc5), .ok (.mulDouble 0x3a 0x4b 0xc5), .ok (.divDouble 0x3a 0x4b 0xc5),
    .ok (.remDouble 0x3a 0x4b 0xc5)] = true := by decide +kernel

/-- Opcodes 0xb0 to 0xbf. -/
theorem test_decode_b0 : decodes [
    [0x92b0], [0x92b1], [0x92b2], [0x92b3], [0x92b4], [0x92b5], [0x92b6], [0x92b7], [0x92b8], [0x92b9], [0x92ba],
    [0x92bb], [0x92bc], [0x92bd], [0x92be], [0x92bf]] [
    .ok (.addInt2addr 2 9), .ok (.subInt2addr 2 9), .ok (.mulInt2addr 2 9), .ok (.divInt2addr 2 9),
    .ok (.remInt2addr 2 9), .ok (.andInt2addr 2 9), .ok (.orInt2addr 2 9), .ok (.xorInt2addr 2 9),
    .ok (.shlInt2addr 2 9), .ok (.shrInt2addr 2 9), .ok (.ushrInt2addr 2 9), .ok (.addLong2addr 2 9),
    .ok (.subLong2addr 2 9), .ok (.mulLong2addr 2 9), .ok (.divLong2addr 2 9), .ok (.remLong2addr 2 9)] = true := by decide +kernel

/-- Opcodes 0xc0 to 0xcf. -/
theorem test_decode_c0 : decodes [
    [0x92c0], [0x92c1], [0x92c2], [0x92c3], [0x92c4], [0x92c5], [0x92c6], [0x92c7], [0x92c8], [0x92c9], [0x92ca],
    [0x92cb], [0x92cc], [0x92cd], [0x92ce], [0x92cf]] [
    .ok (.andLong2addr 2 9), .ok (.orLong2addr 2 9), .ok (.xorLong2addr 2 9), .ok (.shlLong2addr 2 9),
    .ok (.shrLong2addr 2 9), .ok (.ushrLong2addr 2 9), .ok (.addFloat2addr 2 9), .ok (.subFloat2addr 2 9),
    .ok (.mulFloat2addr 2 9), .ok (.divFloat2addr 2 9), .ok (.remFloat2addr 2 9), .ok (.addDouble2addr 2 9),
    .ok (.subDouble2addr 2 9), .ok (.mulDouble2addr 2 9), .ok (.divDouble2addr 2 9), .ok (.remDouble2addr 2 9)] = true := by decide +kernel

/-- Opcodes 0xd0 to 0xdf. -/
theorem test_decode_d0 : decodes [
    [0x92d0, 0x8123], [0x92d1, 0x8123], [0x92d2, 0x8123], [0x92d3, 0x8123], [0x92d4, 0x8123], [0x92d5, 0x8123],
    [0x92d6, 0x8123], [0x92d7, 0x8123], [0x3ad8, 0xc54b], [0x3ad9, 0xc54b], [0x3ada, 0xc54b], [0x3adb, 0xc54b],
    [0x3adc, 0xc54b], [0x3add, 0xc54b], [0x3ade, 0xc54b], [0x3adf, 0xc54b]] [
    .ok (.addIntLit16 2 9 0x8123), .ok (.rsubInt 2 9 0x8123), .ok (.mulIntLit16 2 9 0x8123),
    .ok (.divIntLit16 2 9 0x8123), .ok (.remIntLit16 2 9 0x8123), .ok (.andIntLit16 2 9 0x8123),
    .ok (.orIntLit16 2 9 0x8123), .ok (.xorIntLit16 2 9 0x8123), .ok (.addIntLit8 0x3a 0x4b 0xc5),
    .ok (.rsubIntLit8 0x3a 0x4b 0xc5), .ok (.mulIntLit8 0x3a 0x4b 0xc5), .ok (.divIntLit8 0x3a 0x4b 0xc5),
    .ok (.remIntLit8 0x3a 0x4b 0xc5), .ok (.andIntLit8 0x3a 0x4b 0xc5), .ok (.orIntLit8 0x3a 0x4b 0xc5),
    .ok (.xorIntLit8 0x3a 0x4b 0xc5)] = true := by decide +kernel

/-- Opcodes 0xe0 to 0xef. -/
theorem test_decode_e0 : decodes [
    [0x3ae0, 0xc54b], [0x3ae1, 0xc54b], [0x3ae2, 0xc54b], [0xabe3], [0xabe4], [0xabe5], [0xabe6], [0xabe7], [0xabe8],
    [0xabe9], [0xabea], [0xabeb], [0xabec], [0xabed], [0xabee], [0xabef]] [
    .ok (.shlIntLit8 0x3a 0x4b 0xc5), .ok (.shrIntLit8 0x3a 0x4b 0xc5), .ok (.ushrIntLit8 0x3a 0x4b 0xc5),
    .ok .unusedE3, .ok .unusedE4, .ok .unusedE5, .ok .unusedE6, .ok .unusedE7, .ok .unusedE8, .ok .unusedE9,
    .ok .unusedEa, .ok .unusedEb, .ok .unusedEc, .ok .unusedEd, .ok .unusedEe, .ok .unusedEf] = true := by decide +kernel

/-- Opcodes 0xf0 to 0xff. -/
theorem test_decode_f0 : decodes [
    [0xabf0], [0xabf1], [0xabf2], [0xabf3], [0xabf4], [0xabf5], [0xabf6], [0xabf7], [0xabf8], [0xabf9], [0xabfa],
    [0xabfb], [0xabfc], [0xabfd], [0xabfe], [0xabff]] [
    .ok .unusedF0, .ok .unusedF1, .ok .unusedF2, .ok .unusedF3, .ok .unusedF4, .ok .unusedF5, .ok .unusedF6,
    .ok .unusedF7, .ok .unusedF8, .ok .unusedF9, .ok .unusedFa, .ok .unusedFb, .ok .unusedFc, .ok .unusedFd,
    .ok .unusedFe, .ok .unusedFf] = true := by decide +kernel

/-- R129: the reserved byte is ignored. -/
theorem test_decode_reserved : decodes [[0xff00], [0xff03, 1, 2], [0xff2a, 1, 0]]
    [.ok .nop, .ok (.move16 1 2), .ok (.goto32 1)] = true := by decide +kernel

/-- R156: a fifth register, and a count above five, are fields like any other. -/
theorem test_decode_packed : decodes [[0x406e, 0x0009, 0x6543], [0x6071, 0x0005, 0x0000]]
    [.ok (.invokeVirtual 4 9 3 4 5 6 0), .ok (.invokeStatic 6 5 0 0 0 0 0)] = true := by decide +kernel

/-- R125: no units, or too few, hold no instruction. -/
theorem test_decode_truncated : (decode []).isOk = false ∧ (decode [0x0013]).isOk = false := by decide +kernel

/-- The numbering of spec/opcode_table.json: the first unit in bits 15:0, the second in bits 31:16. -/
theorem test_decode_table_word : decodeTableWord 32 0x02010090 = some (.addInt 0 1 2) := by decide +kernel

/-- Operand units above nbits are zero. -/
theorem test_decode_table_short : decodeTableWord 16 0x0314 = some (.const32 3 0) := by decide +kernel

/-! ### The stream and the state -/

/-- R83: `0x1234, 0x5678` is the byte sequence 34 12 78 56. -/
theorem test_stream_bytes : bytesOfUnits [0x1234, 0x5678] = [0x34, 0x12, 0x78, 0x56] := by decide +kernel

theorem test_stream_canonical : (Memory.ofUnits [0x0100, 0x0000, 0x0203]).cells = [(1, 1), (4, 3), (5, 2)] := by decide +kernel

theorem test_write_zero_removes : ((Memory.ofUnits [0x0100]).write 1 0).cells = [] := by decide +kernel

/-- BT-1. -/
theorem test_reset : State.reset.stack = [] ∧ State.reset.fault = none ∧ State.reset.ports.issued = [] := ⟨rfl, rfl, rfl⟩

/-- `withFetchWord` places the instruction where the next step fetches it. -/
theorem test_fetch_word (n w : Nat) (i : Instr) (h : (Activation.blank.withTableWord n w).method.fetch 0 = .ok i) :
    step (State.reset.withFetchWord n w) = exec i (State.reset.withFetchWord n w) := by
  simp only [step, State.withFetchWord, State.reset]
  change (match (Activation.blank.withTableWord n w).method.fetch 0 with | .ok i => _ | .error f => _) = _
  rw [h]

/-! ### Small states -/

/-- An int in a slot. -/
def w (v : Word32) : Option Word64 := some (v.signExtend 64)
/-- A slot's whole word: a float's bits, a handle. -/
def x (v : Word64) : Option Word64 := some v
/-- An unwritten slot. -/
def u : Option Word64 := none

/-- A register file. -/
def slots (l : List (Option Word64)) : List Slot :=
  l.map fun o => match o with
    | some v => { word := v, written := true }
    | none => { word := 0, written := false }

/-- A void static method of some code units. -/
def method (nreg : Nat) (units : List CodeUnit) : Method :=
  { code := Memory.ofUnits units, len := units.length, nreg := nreg, nins := 0, shorty := { ret := none, params := [] },
    isStatic := true, tries := [] }

/-- An activation at its method's start. -/
def act (regs : List (Option Word64)) (units : List CodeUnit) : Activation :=
  { regs := slots regs, pc := 0, st := .run, exc := none, rv := 0, rvw := false, inv := .idle, ret := .void,
    method := method regs.length units }

/-- A state of one activation with some answers ready. -/
def one (a : Activation) (answers : List Answer) : State :=
  { stack := [a], fault := none,
    ports := { hostExc := none, entries := [], delivered := none, answers := answers, issued := [], calls := [], draws := 0 },
    params := { maxDepth := 4, monitorNull := .npe } }

/-- One step on the units, from the registers, with the answers. -/
def run (regs : List (Option Word64)) (units : List CodeUnit) (answers : List Answer := []) : Option State :=
  match step (one (act regs units) answers) with
  | .next t => some t
  | _ => none

/-- One step of an activation. -/
def runAct (a : Activation) (answers : List Answer := []) : Option State :=
  match step (one a answers) with
  | .next t => some t
  | _ => none

/-- The top activation. -/
def top (t : Option State) : Option Activation := t.bind (·.stack.head?)
/-- A register's 32-bit view. -/
def r32 (t : Option State) (i : Nat) : Option Word32 := (top t).bind fun a => (a.i32 i).toOption
/-- A pair. -/
def r64 (t : Option State) (i : Nat) : Option Word64 := (top t).bind fun a => (a.i64 i).toOption
/-- A slot's whole word. -/
def ref (t : Option State) (i : Nat) : Option Word64 := (top t).bind fun a => (a.ref i).toOption
/-- The cursor. -/
def pc (t : Option State) : Option Nat := (top t).map (·.pc)
/-- The exception of a throwing activation. -/
def raised (t : Option State) : Option Handle := (top t).bind fun a => if a.st = .throwing then a.exc else none
/-- The engine's fault. -/
def fault (t : Option State) : Option EngineFault := t.bind (·.fault)
/-- Every transaction, newest first. -/
def log (t : Option State) : List Request := (t.map (·.ports.issued)).getD []
/-- The transactions but for the exception checks after them, newest first. -/
def issued (t : Option State) : List Request :=
  (log t).filter fun r => decide (r ≠ .exceptionOccurred ∧ r ≠ .exceptionClear)
/-- The staged return value. -/
def finished (t : Option State) : Option ReturnValue :=
  (top t).bind fun a => if a.st = .finished then some a.ret else none

/-! ### Registers, moves and constants -/

/-- P1-a, DS-8: a payload's first unit runs as nop. -/
theorem test_nop : pc (run [] [0x0000]) = some 1 ∧ pc (run [] [0x0100]) = some 1 := by decide +kernel
/-- MV-2, MV-9. -/
theorem test_move : ref (run [u, w 0xdeadbeef] [0x1001]) 0 = some 0xffffffffdeadbeef ∧
    r32 (run [u, x 0x7f800001] [0x1001]) 0 = some 0x7f800001 := by decide +kernel
/-- RF-5: an unwritten source. -/
theorem test_move_unwritten : fault (run [u, u] [0x1001]) = some (.uninitRead (.slot 1)) := by decide +kernel
theorem test_move_from16 : r32 (run [u, w 5] [0x0002, 0x0001]) 0 = some 5 := by decide +kernel
/-- MV-5: the source is checked first. -/
theorem test_move_16 : fault (run [u] [0x0003, 0x0100, 0x0200]) = some (.regRange 0x200) := by decide +kernel
/-- RF-6: overlapping pairs. -/
theorem test_move_wide : r64 (run [w 0x11111111, w 0x22222222, u] [0x0104]) 1 = some 0x2222222211111111 := by decide +kernel
/-- MV-7. -/
theorem test_move_wide_unwritten : fault (run [u, u, w 1, u] [0x2004]) = some (.uninitRead (.slot 3)) := by decide +kernel
theorem test_move_wide_from16 : r64 (run [u, u, w 1, w 2] [0x0005, 0x0002]) 0 = some 0x0000000200000001 := by decide +kernel
theorem test_move_wide_16 : r64 (run [u, u, w 1, w 2] [0x0006, 0x0000, 0x0002]) 0 = some 0x0000000200000001 := by decide +kernel
/-- RF-2: the reference view moves all 64 bits. -/
theorem test_move_object : ref (run [x 0xffffffffffffffff, u] [0x0107]) 1 = some 0xffffffffffffffff := by decide +kernel
theorem test_move_object_from16 : ref (run [x 0x123456789a, u] [0x0108, 0x0000]) 1 = some 0x123456789a := by decide +kernel
theorem test_move_object_16 : ref (run [x 0x123456789a, u] [0x0009, 0x0001, 0x0000]) 1 = some 0x123456789a := by decide +kernel
/-- MV-11, MV-10. -/
theorem test_move_result : r32 (runAct { act [u, u, u, u] [0x030a] with rv := 0xfffffffffffffffe, rvw := true }) 3 =
      some 0xfffffffe ∧ fault (run [u] [0x000a]) = some (.uninitRead .rv) := by decide +kernel
/-- MV-14. -/
theorem test_move_result_wide : r64 (runAct { act [u, u] [0x000b] with rv := 0x0123456789abcdef, rvw := true }) 0 =
    some 0x0123456789abcdef := by decide +kernel
/-- MV-15. -/
theorem test_move_result_object : ref (runAct { act [u, u] [0x010c] with rv := 0x99, rvw := true }) 1 = some 0x99 := by
  decide +kernel
/-- MV-17, MV-18. -/
theorem test_move_exception : fault (run [u] [0x000d]) = some (.noPendingException 0) ∧
    ref (runAct { act [u] [0x000d] with exc := some 7 }) 0 = some 7 ∧
    (top (runAct { act [u] [0x000d] with exc := some 7 })).map (·.exc) = some none := by decide +kernel
/-- MV-19, MV-20. -/
theorem test_const_4 : r32 (run [u] [0x8012]) 0 = some 0xfffffff8 ∧ r32 (run [u] [0x7012]) 0 = some 7 := by decide +kernel
/-- MV-21. -/
theorem test_const_16 : r32 (run [u, u] [0x0113, 0x8000]) 1 = some 0xffff8000 := by decide +kernel
/-- MV-22. -/
theorem test_const : r32 (run [u, u, u] [0x0214, 0x5678, 0x1234]) 2 = some 0x12345678 := by decide +kernel
/-- MV-23. -/
theorem test_const_high16 : r32 (run [u] [0x0015, 0x3f80]) 0 = some 0x3f800000 := by decide +kernel
/-- MV-24. -/
theorem test_const_wide_16 : r64 (run [u, u] [0x0016, 0xffff]) 0 = some 0xffffffffffffffff := by decide +kernel
/-- MV-25. -/
theorem test_const_wide_32 : r64 (run [u, u, u, u] [0x0217, 0x0000, 0x8000]) 2 = some 0xffffffff80000000 := by decide +kernel
/-- MV-26, RF-4. -/
theorem test_const_wide : r64 (run [u, u] [0x0018, 0xcdef, 0x89ab, 0x4567, 0x0123]) 0 = some 0x0123456789abcdef ∧
    fault (run [u] [0x0018, 0, 0, 0, 0]) = some (.regRange 0) := by decide +kernel
/-- MV-27. -/
theorem test_const_wide_high16 : r64 (run [u, u] [0x0019, 0x3ff0]) 0 = some 0x3ff0000000000000 := by decide +kernel
/-- MV-28. -/
theorem test_const_string : ref (run [u, u] [0x011a, 0x0003] [.handle 8]) 1 = some 8 := by decide +kernel
/-- MV-29: the low unit of the index comes first. -/
theorem test_const_string_jumbo : issued (run [u, u] [0x011b, 0x0000, 0x0001] [.handle 8]) = [.resolveString 0x10000] := by
  decide +kernel
/-- MV-30, MV-31. -/
theorem test_const_class : ref (run [u] [0x001c, 0x0005] [.ref (.ok 8)]) 0 = some 8 ∧
    raised (run [u] [0x001c, 0x0005] [.ref (.fails 6)]) = some 6 := by decide +kernel

/-! ### Fetch -/

/-- DS-1 and DS-2. -/
theorem test_unassigned : fault (run [] [0xff3e]) = some (.unknownOpcode 0x3e 0) := by decide +kernel
/-- DS-5 and DS-6. -/
theorem test_fetch_end : fault (run [u] [0x0013]) = some (.pcRange 1) ∧ fault (run [] []) = some (.pcRange 0) := by
  decide +kernel

/-! ### Integers -/

/-- A three-register int operation on v1 and v2, into v0. -/
def int3 (op : CodeUnit) (a b : Word32) : Option Word32 := r32 (run [u, w a, w b] [op, 0x0201]) 0
/-- The low half of a pair. -/
def lo (v : Word64) : Option Word64 := x ((v.setWidth 32).setWidth 64)
/-- The high half of a pair. -/
def hi (v : Word64) : Option Word64 := x (v >>> 32)
/-- A three-register long operation on v2 and v4, into v0. -/
def long3 (op : CodeUnit) (a b : Word64) : Option Word64 :=
  r64 (run [u, u, lo a, hi a, lo b, hi b] [op, 0x0402]) 0
/-- A /2addr int operation on v0 and v1. -/
def int2 (op : CodeUnit) (a b : Word32) : Option Word32 := r32 (run [w a, w b] [op ||| 0x1000]) 0
/-- A /2addr long operation on v0 and v2. -/
def long2 (op : CodeUnit) (a b : Word64) : Option Word64 :=
  r64 (run [lo a, hi a, lo b, hi b] [op ||| 0x2000]) 0
/-- A literal operation on v1, into v0. -/
def lit (op lit : CodeUnit) (a : Word32) : Option Word32 := r32 (run [u, w a] [op, lit]) 0
/-- A unary int operation on v1, into v0. -/
def int1 (op : CodeUnit) (a : Word32) : Option Word32 := r32 (run [u, w a] [op ||| 0x1000]) 0
/-- A long shift of v2 by v4, into v0, with v5 unwritten. -/
def shift3 (op : CodeUnit) (a : Word64) (b : Word32) : Option Word64 := r64 (run [u, u, lo a, hi a, w b, u] [op, 0x0402]) 0
/-- A /2addr long shift of v0 by v2. -/
def shift2 (op : CodeUnit) (a : Word64) (b : Word32) : Option Word64 := r64 (run [lo a, hi a, w b] [op ||| 0x2000]) 0
/-- A unary long operation on v2, into v0. -/
def long1 (op : CodeUnit) (a : Word64) : Option Word64 := r64 (run [u, u, lo a, hi a] [op ||| 0x2000]) 0

/-- IN-1. -/
theorem test_add_int : int3 0x90 0x7fffffff 1 = some 0x80000000 ∧ int2 0xb0 5 3 = some 8 := by decide +kernel
/-- IN-2. -/
theorem test_sub_int : int3 0x91 0x80000000 1 = some 0x7fffffff ∧ int2 0xb1 5 7 = some 0xfffffffe := by decide +kernel
/-- IN-3. -/
theorem test_mul_int : int3 0x92 0x10000 0x10000 = some 0 ∧ int2 0xb2 0xffffffff 3 = some 0xfffffffd := by decide +kernel
/-- IN-4, P2-a, P2-h. -/
theorem test_div_int : int3 0x93 0xfffffff9 2 = some 0xfffffffd ∧ int3 0x93 0x80000000 0xffffffff = some 0x80000000 ∧
    int2 0xb3 0 0x80000000 = some 0 := by decide +kernel
/-- IN-5, IN-6, P2-b. -/
theorem test_rem_int : int3 0x94 0xfffffff9 2 = some 0xffffffff ∧ int3 0x94 7 0xfffffffe = some 1 ∧
    int3 0x94 0x80000000 0xffffffff = some 0 ∧ int2 0xb4 7 2 = some 1 := by decide +kernel
/-- P2-c, IN-32: X5 writes no register, and both reads come before the check. -/
theorem test_div_zero : raised (run [w 0x12345678, w 7, w 0] [0x0093, 0x0201] [.handle 9]) = some 9 ∧
    r32 (run [w 0x12345678, w 7, w 0] [0x0093, 0x0201] [.handle 9]) 0 = some 0x12345678 ∧
    fault (run [u, w 7, u] [0x0093, 0x0201]) = some (.uninitRead (.slot 2)) := by decide +kernel
/-- IN-7. -/
theorem test_and_or_xor : int3 0x95 0xff00ff00 0x0ff00ff0 = some 0x0f000f00 ∧ int3 0x96 0xff00ff00 0x0ff00ff0 = some 0xfff0fff0 ∧
    int3 0x97 0xff00ff00 0x0ff00ff0 = some 0xf0f0f0f0 := by decide +kernel
theorem test_and_or_xor_2addr : int2 0xb5 12 10 = some 8 ∧ int2 0xb6 12 10 = some 14 ∧ int2 0xb7 12 10 = some 6 := by
  decide +kernel
/-- IN-8 to IN-11. -/
theorem test_int_shifts : int3 0x98 1 0x21 = some 2 ∧ int3 0x99 0x80000000 0xffffffff = some 0xffffffff ∧
    int3 0x9a 0x80000000 0xffffffff = some 1 ∧ int3 0x98 0x12345678 0x20 = some 0x12345678 := by decide +kernel
theorem test_int_shifts_2addr : int2 0xb8 1 4 = some 16 ∧ int2 0xb9 0x80000000 4 = some 0xf8000000 ∧
    int2 0xba 0x80000000 4 = some 0x08000000 := by decide +kernel
/-- IN-12, IN-13. -/
theorem test_long_sums : long3 0x9b 0x7fffffffffffffff 1 = some 0x8000000000000000 ∧
    long3 0x9c 0 1 = some 0xffffffffffffffff ∧ long3 0x9d 0xffffffff 0xffffffff = some 0xfffffffe00000001 := by decide +kernel
theorem test_long_sums_2addr : long2 0xbb 0xffffffff 1 = some 0x100000000 ∧ long2 0xbc 0x100000000 1 = some 0xffffffff ∧
    long2 0xbd 0x100000000 3 = some 0x300000000 := by decide +kernel
/-- IN-14, P2-e, P2-f. -/
theorem test_long_division : long3 0x9e 0x8000000000000000 0x100000000 = some 0xffffffff80000000 ∧
    long3 0x9e 0x8000000000000000 0xffffffffffffffff = some 0x8000000000000000 ∧
    long3 0x9f 0x8000000000000000 0xffffffffffffffff = some 0 ∧
    long2 0xbe 7 0xfffffffffffffffe = some 0xfffffffffffffffd ∧ long2 0xbf 0xfffffffffffffff9 2 = some 0xffffffffffffffff := by
  decide +kernel
theorem test_long_logic : long3 0xa0 0xf0 0x3c = some 0x30 ∧ long3 0xa1 0xf0 0x3c = some 0xfc ∧ long3 0xa2 0xf0 0x3c = some 0xcc := by
  decide +kernel
/-- IN-25. -/
theorem test_long_logic_2addr : long2 0xc0 0xf0 0x3c = some 0x30 ∧ long2 0xc1 0xf0 0x3c = some 0xfc ∧
    long2 0xc2 0xffffffff 0xffffffffffffffff = some 0xffffffff00000000 := by decide +kernel
/-- IN-15 to IN-18. -/
theorem test_long_shifts : shift3 0xa3 1 0x40 = some 1 ∧ shift3 0xa3 1 0x41 = some 2 ∧
    shift3 0xa4 0x8000000000000000 0x3f = some 0xffffffffffffffff ∧ shift3 0xa5 0x8000000000000000 0x3f = some 1 := by
  decide +kernel
theorem test_long_shifts_2addr : shift2 0xc3 1 36 = some 0x1000000000 ∧ shift2 0xc4 0x8000000000000000 4 = some 0xf800000000000000 ∧
    shift2 0xc5 0x8000000000000000 4 = some 0x0800000000000000 := by decide +kernel
/-- IN-19 to IN-21. -/
theorem test_cmp_long : r32 (run [u, u, lo 0x8000000000000000, hi 0x8000000000000000, lo 0, hi 0] [0x0031, 0x0402]) 0 =
      some 0xffffffff ∧ r32 (run [u, u, lo 1, hi 1, lo 0xffffffffffffffff, hi 0xffffffffffffffff] [0x0031, 0x0402]) 0 = some 1 ∧
    r32 (run [u, u, lo 5, hi 5, lo 5, hi 5] [0x0031, 0x0402]) 0 = some 0 := by decide +kernel
/-- IN-22, IN-23. -/
theorem test_negations : int1 0x7b 0x80000000 = some 0x80000000 ∧ int1 0x7c 5 = some 0xfffffffa ∧
    long1 0x7d 1 = some 0xffffffffffffffff ∧ long1 0x7e 0xffffffff = some 0xffffffff00000000 := by decide +kernel
/-- IN-26 and hand calculations. -/
theorem test_lit16 : r32 (run [u, w 3] [0x10d0, 0xffff]) 0 = some 2 ∧ r32 (run [u, w 3] [0x10d1, 0x0064]) 0 = some 0x61 ∧
    r32 (run [u, w 3] [0x10d2, 0xffff]) 0 = some 0xfffffffd ∧ r32 (run [u, w 7] [0x10d3, 0xfffe]) 0 = some 0xfffffffd ∧
    r32 (run [u, w 7] [0x10d4, 0xfffe]) 0 = some 1 := by decide +kernel
theorem test_lit16_logic : r32 (run [u, w 0x12345678] [0x10d5, 0xfff0]) 0 = some 0x12345670 ∧
    r32 (run [u, w 0x12345678] [0x10d6, 0x000f]) 0 = some 0x1234567f ∧
    r32 (run [u, w 0x12345678] [0x10d7, 0xffff]) 0 = some 0xedcba987 := by decide +kernel
/-- IN-31. -/
theorem test_lit16_zero : raised (run [u, w 5] [0x10d3, 0x0000] [.handle 9]) = some 9 := by decide +kernel
/-- IN-28, IN-27, P2-i. -/
theorem test_lit8 : lit 0xd8 0xff01 5 = some 4 ∧ lit 0xd9 0x0a01 3 = some 7 ∧ lit 0xda 0xfe01 3 = some 0xfffffffa ∧
    lit 0xdb 0xff01 0x80000000 = some 0x80000000 ∧ lit 0xdc 0xfe01 7 = some 1 := by decide +kernel
/-- IN-29. -/
theorem test_lit8_logic : lit 0xdd 0x0f01 0xff = some 0x0f ∧ lit 0xde 0x0f01 0xf0 = some 0xff ∧
    lit 0xdf 0xff01 5 = some 0xfffffffa ∧ lit 0xe0 0x2101 1 = some 2 ∧ lit 0xe1 0x0401 0x80000000 = some 0xf8000000 ∧
    lit 0xe2 0x0401 0x80000000 = some 0x08000000 := by decide +kernel
/-- IN-30. -/
theorem test_lit8_zero : raised (run [w 0x2a, w 5] [0x00db, 0x0001] [.handle 9]) = some 9 := by decide +kernel

/-! ### Floating point -/

/-- A three-register float operation on v1 and v2, into v0: the whole word of the slot. -/
def float3 (op : CodeUnit) (a b : Word64) : Option Word64 := ref (run [u, x a, x b] [op, 0x0201]) 0

/-- FP-1, FP-3, FP-4. -/
theorem test_add_div_float : float3 0xa6 0x3dcccccd 0x3e4ccccd = some 0x3e99999a ∧ float3 0xa9 0x3f800000 0 = some 0x7f800000 ∧
    float3 0xa9 0xbf800000 0 = some 0xff800000 := by decide +kernel
/-- FP-6, FP-7, and 1 − 2. -/
theorem test_mul_sub_float : float3 0xa8 0x7f7fffff 0x40000000 = some 0x7f800000 ∧ float3 0xa8 0x00800000 0x3f000000 = some 0x00400000 ∧
    float3 0xa7 0x3f800000 0x40000000 = some 0xbf800000 := by decide +kernel
/-- FP-8 to FP-10. -/
theorem test_rem_float : float3 0xaa 0x40b00000 0x40000000 = some 0x3fc00000 ∧ float3 0xaa 0xc0b00000 0x40000000 = some 0xbfc00000 ∧
    float3 0xaa 0x3f800000 0x7f800000 = some 0x3f800000 := by decide +kernel
/-- FP-2, FP-12, and products of small numbers. -/
theorem test_doubles : long3 0xab 0x3fb999999999999a 0x3fc999999999999a = some 0x3fd3333333333334 ∧
    long3 0xac 0x3ff0000000000000 0x4000000000000000 = some 0xbff0000000000000 ∧
    long3 0xad 0x4000000000000000 0x4008000000000000 = some 0x4018000000000000 ∧
    long3 0xae 0x3ff0000000000000 0x4000000000000000 = some 0x3fe0000000000000 ∧
    long3 0xaf 0x8000000000000000 0x3ff0000000000000 = some 0x8000000000000000 := by decide +kernel
/-- 1 + 2, 1 − 2, 2 × 3, 1 / 2, 5.5 rem 2. -/
theorem test_float_2addr : int2 0xc6 0x3f800000 0x40000000 = some 0x40400000 ∧ int2 0xc7 0x3f800000 0x40000000 = some 0xbf800000 ∧
    int2 0xc8 0x40000000 0x40400000 = some 0x40c00000 ∧ int2 0xc9 0x3f800000 0x40000000 = some 0x3f000000 ∧
    int2 0xca 0x40b00000 0x40000000 = some 0x3fc00000 := by decide +kernel
theorem test_double_2addr : long2 0xcb 0x3ff0000000000000 0x4000000000000000 = some 0x4008000000000000 ∧
    long2 0xcc 0x3ff0000000000000 0x4000000000000000 = some 0xbff0000000000000 ∧
    long2 0xcd 0x4000000000000000 0x4008000000000000 = some 0x4018000000000000 ∧
    long2 0xce 0x3ff0000000000000 0x4000000000000000 = some 0x3fe0000000000000 ∧
    long2 0xcf 0x4016000000000000 0x4000000000000000 = some 0x3ff8000000000000 := by decide +kernel
/-- P4-a, P4-d, P4-e. -/
theorem test_cmp_float : int3 0x2d 0x7fc00000 0x3f800000 = some 0xffffffff ∧ int3 0x2e 0x7fc00000 0x3f800000 = some 1 ∧
    int3 0x2d 0x80000000 0 = some 0 ∧ int3 0x2e 0x3f800000 0x40000000 = some 0xffffffff := by decide +kernel
/-- Property 4 for double. -/
theorem test_cmp_double : r32 (run [u, u, lo 0x7ff8000000000000, hi 0x7ff8000000000000, lo 0, hi 0] [0x002f, 0x0402]) 0 =
      some 0xffffffff ∧ r32 (run [u, u, lo 0x7ff8000000000000, hi 0x7ff8000000000000, lo 0, hi 0] [0x0030, 0x0402]) 0 = some 1 := by
  decide +kernel
/-- FP-13, FP-14. -/
theorem test_float_negate : ref (run [u, x 0x7fc00001] [0x107f]) 0 = some 0xffc00001 ∧ long1 0x80 0 = some 0x8000000000000000 := by
  decide +kernel
/-- P3-a, P3-c, P3-e, P3-g, P3-h. -/
theorem test_float_to_int : int1 0x87 0x501502f9 = some 0x7fffffff ∧ int1 0x87 0x7fc00000 = some 0 ∧
    int1 0x87 0xc039999a = some 0xfffffffe ∧ int1 0x87 0x4effffff = some 0x7fffff80 ∧ int1 0x87 0xff800000 = some 0x80000000 := by
  decide +kernel
/-- P3-i, P3-j, P3-l, P3-m. -/
theorem test_wide_to_integer : long1 0x8b 0x43e02207973f6440 = some 0x7fffffffffffffff ∧
    long1 0x8b 0xc3e02207973f6440 = some 0x8000000000000000 ∧
    r64 (run [u, u, x 0x501502f9] [0x2088]) 0 = some 0x00000002540be400 ∧
    r32 (run [u, u, lo 0xc004000000000000, hi 0xc004000000000000] [0x208a]) 0 = some 0xfffffffe := by decide +kernel
/-- FP-15, FP-16, FP-18. -/
theorem test_int_to_float : int1 0x82 0x01000001 = some 0x4b800000 ∧ int1 0x82 0x01000003 = some 0x4b800002 ∧
    r64 (run [u, u, w 0x7fffffff] [0x2083]) 0 = some 0x41dfffffffc00000 := by decide +kernel
/-- FP-17; 2^24 + 1 rounds to 2^24. -/
theorem test_long_to_float : long1 0x86 0x0020000000000001 = some 0x4340000000000000 ∧
    r32 (run [u, u, lo 0x1000001, hi 0x1000001] [0x2085]) 0 = some 0x4b800000 := by decide +kernel
/-- FP-19, FP-20; 1.5f widened. -/
theorem test_float_formats : ref (run [u, u, lo 0x483d6329f1c35ca5, hi 0x483d6329f1c35ca5] [0x208c]) 0 = some 0x7f800000 ∧
    ref (run [u, u, lo 0x3fb999999999999a, hi 0x3fb999999999999a] [0x208c]) 0 = some 0x3dcccccd ∧
    r64 (run [u, u, x 0x3fc00000] [0x2089]) 0 = some 0x3ff8000000000000 := by decide +kernel
/-- FP-21 to FP-26. -/
theorem test_integer_conversions : r64 (run [u, u, w 0xffffffff] [0x2081]) 0 = some 0xffffffffffffffff ∧
    r32 (run [u, u, lo 0x123456789, hi 0x123456789] [0x2084]) 0 = some 0x23456789 ∧ int1 0x8d 0x80 = some 0xffffff80 ∧
    int1 0x8e 0xffff8000 = some 0x8000 ∧ int1 0x8f 0x18000 = some 0xffff8000 := by decide +kernel

/-! ### Control flow -/

/-- An activation whose stream is `before` zero units and then the units, with its cursor at `before`. -/
def actAt (before : Nat) (regs : List (Option Word64)) (units : List CodeUnit) : Activation :=
  { act regs (List.replicate before 0 ++ units) with pc := before }

/-- CF-1, CF-2, CF-3. -/
theorem test_goto : pc (runAct (actAt 5 [] [0xfe28])) = some 3 ∧ pc (runAct (actAt 5 [] [0x0028])) = some 5 ∧
    fault (runAct (actAt 1 [] [0xfe28])) = some (.pcRange (-1)) := by decide +kernel
/-- CF-4, CF-5. -/
theorem test_goto_16 : fault (runAct (actAt 2 [] [0x0029, 0x0009, 0, 0, 0, 0, 0, 0])) = some (.pcRange 11) ∧
    pc (runAct (actAt 2 [] [0x0029, 0x0008, 0, 0, 0, 0, 0, 0])) = some 10 := by decide +kernel
/-- CF-6. -/
theorem test_goto_32 : pc (runAct (actAt 3 [] [0x002a, 0xfffd, 0xffff])) = some 0 := by decide +kernel
/-- CF-7, CF-8. -/
theorem test_if_eq : pc (run [w 5, w 5] [0x1032, 4, 0, 0]) = some 4 ∧ pc (run [w 5, w 6] [0x1032, 4, 0, 0]) = some 2 := by
  decide +kernel
/-- CF-10. -/
theorem test_if_ne : pc (run [w 5, w 5] [0x1033, 0x7fff]) = some 2 ∧ pc (run [w 5, w 6] [0x1033, 4, 0, 0]) = some 4 := by
  decide +kernel
/-- CF-9. -/
theorem test_if_lt_ge : pc (run [w 0xffffffff, w 1] [0x1034, 4, 0, 0]) = some 4 ∧
    pc (run [w 0xffffffff, w 1] [0x1035, 4, 0, 0]) = some 2 := by decide +kernel
theorem test_if_gt_le : pc (run [w 0xffffffff, w 1] [0x1036, 4, 0, 0]) = some 2 ∧
    pc (run [w 1, w 1] [0x1037, 4, 0, 0]) = some 4 := by decide +kernel
/-- CF-11. -/
theorem test_if_eqz_nez : pc (run [x 0x100000000] [0x0038, 4, 0, 0]) = some 4 ∧ pc (run [w 1] [0x0039, 4, 0, 0]) = some 4 := by
  decide +kernel
theorem test_if_ltz_gez : pc (run [w 0x80000000] [0x003a, 4, 0, 0]) = some 4 ∧ pc (run [w 0] [0x003b, 4, 0, 0]) = some 4 := by
  decide +kernel
/-- CF-12. -/
theorem test_if_gtz_lez : pc (run [w 0] [0x003c, 4, 0, 0]) = some 2 ∧ pc (run [w 0] [0x003d, 4, 0, 0]) = some 4 := by
  decide +kernel

/-- Property 5's method. -/
def packed : List CodeUnit := [0x002b, 4, 0, 0, 0x0100, 3, 0x000a, 0, 5, 0, 6, 0, 7, 0]
/-- P5-a, P5-b, P5-e. -/
theorem test_packed_switch : pc (run [w 11] packed) = some 6 ∧ pc (run [w 20] packed) = some 3 ∧ pc (run [w 9] packed) = some 3 := by
  decide +kernel
/-- CF-13, CF-14, CF-16. -/
theorem test_packed_switch_wraps :
    pc (run [w 0x7fffffff] [0x002b, 4, 0, 0, 0x0100, 3, 0, 0x8000, 5, 0, 6, 0, 7, 0]) = some 3 ∧
    pc (run [w 0x80000000] [0x002b, 4, 0, 0, 0x0100, 3, 0xffff, 0x7fff, 5, 0, 6, 0, 7, 0]) = some 6 ∧
    fault (run [w 11] [0x002b, 4, 0, 0, 0x0300, 3, 0x000a, 0, 5, 0, 6, 0, 7, 0]) = some (.badMagic 4 0x0300) := by decide +kernel

/-- Property 6's table, with given keys and small targets. -/
def sparse (k0 k1 k2 : CodeUnit) : List CodeUnit :=
  [0x002c, 4, 0, 0, 0x0200, 3, k0, 0, k1, 0, k2, 0, 10, 0, 11, 0, 300, 0]
/-- P6-a, P6-b and P6-d, with the targets 10, 11 and 300. -/
theorem test_sparse_switch : pc (run [w 5] (sparse 1 5 9)) = some 11 ∧ pc (run [w 6] (sparse 1 5 9)) = some 3 ∧
    fault (run [w 9] (sparse 1 5 9)) = some (.pcRange 300) := by decide +kernel
/-- CF-17, CF-18. -/
theorem test_sparse_switch_order : fault (run [w 5] (sparse 5 1 9)) = some (.badTable 4) ∧
    fault (run [w 5] (sparse 1 1 9)) = some (.badTable 4) := by decide +kernel

/-- CF-20, CF-21. -/
theorem test_throw : raised (run [x 0] [0x0027] [.handle 9]) = some 9 ∧
    issued (run [x 0] [0x0027] [.handle 9]) = [.throwNew (.nullPointer .throw)] ∧
    pc (runAct (actAt 7 [x 5] [0x0027])) = some 7 ∧ raised (runAct (actAt 7 [x 5] [0x0027])) = some 5 := by decide +kernel

/-- An activation of a method with a return code. -/
def returning (c : Option TypeCode) (regs : List (Option Word64)) (units : List CodeUnit) : Activation :=
  let a := act regs units
  { a with method := { a.method with shorty := { ret := c, params := [] } } }

/-- CF-22. -/
theorem test_return_void : fault (runAct (returning (some (.w32 .I)) [] [0x000e])) = some (.paramMismatch 0) ∧
    finished (run [] [0x000e]) = some .void := by decide +kernel
/-- CF-23, CF-25. -/
theorem test_return : fault (runAct (returning (some (.w64 .J)) [w 1] [0x000f])) = some (.paramMismatch 0) ∧
    finished (runAct (returning (some (.w32 .Z)) [w 1] [0x000f])) = some (.value (.w32 .Z 1)) := by decide +kernel
/-- CF-24. -/
theorem test_return_wide : finished (runAct (returning (some (.w64 .D)) [x 0, x 0x3ff00000] [0x0010])) =
    some (.value (.w64 .D 0x3ff0000000000000)) := by decide +kernel
/-- CF-26. -/
theorem test_return_object : finished (runAct (returning (some .L) [x 0] [0x0011])) = some (.value (.ref 0)) := by decide +kernel
/-- CF-27, CF-32. -/
theorem test_monitor_enter : pc (run [x 5] [0x001d] [.monitor .acquired]) = some 1 ∧
    raised (run [x 0] [0x001d] [.handle 9]) = some 9 := by decide +kernel
/-- R456: a monitor-enter that is never answered. -/
theorem test_monitor_unanswered : (match step (one (act [x 5] [0x001d]) [.monitor .unanswered]) with
    | .fault .monitorUnanswered => true | _ => false) = true := by decide +kernel
/-- CF-28, CF-33. -/
theorem test_monitor_exit : pc (runAct (actAt 9 [x 5] [0x001e]) [.done (.fails 6)]) = some 10 ∧
    raised (runAct (actAt 9 [x 5] [0x001e]) [.done (.fails 6)]) = some 6 ∧ pc (run [x 0] [0x001e] [.handle 9]) = some 1 := by
  decide +kernel
/-- The same state with MONITOR_NULL at FAULT. -/
def faulting (a : Activation) : Option State :=
  match step { one a [] with params := { maxDepth := 4, monitorNull := .fault } } with
  | .next t => some t
  | _ => none
/-- CF-30, CF-31. -/
theorem test_monitor_null : fault (faulting (act [x 0] [0x001d])) = some (.nullMonitor 0) ∧
    pc (faulting (act [x 0] [0x001d])) = some 0 ∧ fault (faulting (act [x 0] [0x001e])) = some (.nullMonitor 0) ∧
    pc (faulting (act [x 0] [0x001e])) = some 1 := by decide +kernel

/-! ### Objects, arrays, fields -/

/-- OB-1, OB-2. -/
theorem test_array_length : r32 (run [u, x 5] [0x1021] [.length 3]) 0 = some 3 ∧
    raised (run [u, x 0] [0x1021] [.handle 9]) = some 9 := by decide +kernel
/-- OB-3, OB-4, OB-5. -/
theorem test_new_instance : ref (run [u] [0x0022, 4] [.ref (.ok 2), .ref (.ok 5)]) 0 = some 5 ∧
    raised (run [u] [0x0022, 4] [.ref (.ok 2), .ref (.fails 6)]) = some 6 ∧
    issued (run [u] [0x0022, 4] [.ref (.fails 6)]) = [.resolveClass 4] := by decide +kernel
/-- P10-a, P10-c, P10-d. -/
theorem test_new_array : issued (run [u, w 0xffffffff] [0x1023, 2] [.ref (.ok 2), .handle 9]) =
      [.throwNew (.negativeArraySize (-1)), .resolveClass 2] ∧
    ref (run [u, w 0] [0x1023, 2] [.ref (.ok 2), .ref (.ok 5)]) 0 = some 5 ∧
    raised (run [u, w 0xffffffff] [0x1023, 2] [.ref (.fails 6)]) = some 6 := by decide +kernel
/-- OB-17, OB-18. -/
theorem test_check_cast : pc (run [u, x 0] [0x011f, 2] [.ref (.ok 2)]) = some 2 ∧
    issued (run [u, x 5] [0x011f, 2] [.ref (.ok 2), .bool false, .handle 3, .handle 9]) =
      [.throwNew (.classCast 3 2), .classOf 5, .isInstanceOf 5 2, .resolveClass 2] := by decide +kernel
/-- OB-20, OB-21. -/
theorem test_instance_of : r32 (run [u, x 0] [0x1020, 2] [.ref (.ok 2)]) 0 = some 0 ∧
    ref (run [u, x 5] [0x1120, 2] [.ref (.ok 2), .bool true]) 1 = some 1 := by decide +kernel
/-- OB-22, OB-24, OB-26. -/
theorem test_filled_new_array : issued (run [w 5, w 6] [0x2024, 7, 0x0010] [.elemKind (.code (.w32 .I)), .ref (.ok 8), .done (.ok ())]) =
      [.arraySetRegion 8 0 2 (.ints [5, 6]), .allocArray 2 7, .arrayElementType 7] ∧
    (top (run [w 5, w 6] [0x2024, 7, 0x0010] [.elemKind (.code (.w32 .I)), .ref (.ok 8), .done (.ok ())])).map (fun a => (a.rv, a.rvw)) =
      some (8, true) ∧
    issued (run [u] [0x1024, 9, 0] [.elemKind (.code (.w64 .J)), .handle 9]) =
      [.throwNew (.internalError (.code (.w64 .J))), .arrayElementType 9] ∧
    fault (run [] [0x6024, 7, 0x0010]) = some (.malformed 0) := by decide +kernel
/-- OB-27 on v0 to v2, OB-28. -/
theorem test_filled_new_array_range :
    issued (run [x 1, x 2, x 0] [0x0325, 8, 0] [.elemKind (.code .L), .ref (.ok 8), .done (.ok ())]) =
      [.arraySetRegion 8 0 3 (.refs (.code .L) [1, 2, 0]), .allocArray 3 8, .arrayElementType 8] ∧
    pc (run [] [0x0025, 7, 32] [.elemKind (.code (.w32 .I)), .ref (.ok 8), .done (.ok ())]) = some 3 := by decide +kernel
/-- OB-29, OB-30, OB-31, OB-32. -/
theorem test_fill_array_data : issued (run [x 5] [0x0026, 3, 0, 0x0300, 4, 2, 0, 1, 0, 2, 0] [.length 3, .done (.ok ())]) =
      [.arraySetRegion 5 0 2 (.raw 4 [1, 2]), .arrayLength 5] ∧
    issued (run [x 5] [0x0026, 3, 0, 0x0300, 1, 3, 0, 0x0201, 0x0003] [.length 3, .done (.ok ())]) =
      [.arraySetRegion 5 0 3 (.raw 1 [1, 2, 3]), .arrayLength 5] ∧
    issued (run [x 5] [0x0026, 3, 0, 0x0300, 4, 4, 0] [.length 3, .handle 9]) =
      [.throwNew (.arrayIndex 3 4), .arrayLength 5] ∧
    fault (run [x 5] [0x0026, 3, 0, 0x0300, 3, 4, 0]) = some (.badTable 3) := by decide +kernel
/-- R67: a host that refuses the region store. -/
theorem test_region_refused : raised (run [x 5] [0x0026, 3, 0, 0x0300, 4, 2, 0, 1, 0, 2, 0] [.length 3, .done (.fails 6)]) = some 6 ∧
    raised (run [w 5] [0x1024, 7, 0] [.elemKind (.code (.w32 .I)), .ref (.ok 8), .done (.fails 6)]) = some 6 := by decide +kernel
/-- OB-6, OB-8, OB-9, OB-10. -/
theorem test_aget : r32 (run [u, x 5, w 1] [0x0044, 0x0201] [.length 3, .element 20]) 0 = some 20 ∧
    issued (run [u, x 5, w 0xffffffff] [0x0044, 0x0201] [.length 3, .handle 9]) =
      [.throwNew (.arrayIndex 3 (-1)), .arrayLength 5] ∧
    issued (run [u, x 0, w 7] [0x0044, 0x0201] [.handle 9]) = [.throwNew (.nullPointer .array)] ∧
    fault (run [u, x 0, u] [0x0044, 0x0201]) = some (.uninitRead (.slot 2)) := by decide +kernel
/-- OB-11, OB-12, and the same byte as a boolean and a short. -/
theorem test_aget_narrow : r32 (run [u, x 5, w 0] [0x0048, 0x0201] [.length 3, .element 0x80]) 0 = some 0xffffff80 ∧
    r32 (run [u, x 5, w 0] [0x0049, 0x0201] [.length 3, .element 0xffff]) 0 = some 0xffff ∧
    r32 (run [u, x 5, w 0] [0x0047, 0x0201] [.length 3, .element 0x80]) 0 = some 0x80 ∧
    r32 (run [u, x 5, w 0] [0x004a, 0x0201] [.length 3, .element 0x8000]) 0 = some 0xffff8000 := by decide +kernel
/-- OB-13. -/
theorem test_aget_wide_object :
    r64 (run [u, x 5, w 1, u, u, u] [0x0445, 0x0201] [.length 3, .element 0x0123456789abcdef]) 4 = some 0x0123456789abcdef ∧
    ref (run [u, x 5, w 1] [0x0046, 0x0201] [.length 3, .element 0x123456789a]) 0 = some 0x123456789a := by decide +kernel
/-- OB-14, OB-15. -/
theorem test_aput : issued (run [w 0xfffffffb, x 5, w 1] [0x004b, 0x0201] [.length 3]) =
      [.arraySet 5 1 (.w32 .I 0xfffffffb), .arrayLength 5] ∧
    issued (run [w 0x12345680, x 5, w 0] [0x004f, 0x0201] [.length 3]) = [.arraySet 5 0 (.w32 .B 0x80), .arrayLength 5] ∧
    issued (run [w 0x12345680, x 5, w 0] [0x004e, 0x0201] [.length 3]) = [.arraySet 5 0 (.w32 .Z 0x80), .arrayLength 5] ∧
    issued (run [w 0x12345680, x 5, w 0] [0x0050, 0x0201] [.length 3]) = [.arraySet 5 0 (.w32 .C 0x5680), .arrayLength 5] ∧
    issued (run [w 0x12345680, x 5, w 0] [0x0051, 0x0201] [.length 3]) = [.arraySet 5 0 (.w32 .S 0x5680), .arrayLength 5] := by
  decide +kernel
/-- OB-16. -/
theorem test_aput_wide_object : issued (run [lo 0x123456789, hi 0x123456789, x 5, w 0] [0x004c, 0x0302] [.length 3]) =
      [.arraySet 5 0 (.w64 .J 0x123456789), .arrayLength 5] ∧
    raised (run [x 7, x 5, w 0] [0x004d, 0x0201] [.length 3, .done (.fails 6)]) = some 6 := by decide +kernel
/-- OB-35, OB-36, OB-37, OB-38. -/
theorem test_iget : r32 (run [u, x 5] [0x1052, 4] [.field (.ok (.w32 .I 0x2a))]) 0 = some 0x2a ∧
    r32 (run [u, x 5] [0x1052, 4] [.field (.ok (.w32 .B 0x80))]) 0 = some 0xffffff80 ∧
    issued (run [u, x 0] [0x1052, 4] [.handle 9]) = [.throwNew (.nullPointer .object)] ∧
    raised (run [u, x 5] [0x1052, 4] [.field (.fails 6)]) = some 6 := by decide +kernel
/-- OB-39; the code of the value, not the opcode, chooses the path. -/
theorem test_iget_kinds : r64 (run [u, x 5, u, u] [0x1253, 4] [.field (.ok (.w64 .J 0x0123456789abcdef))]) 2 = some 0x0123456789abcdef ∧
    ref (run [u, x 5] [0x1054, 4] [.field (.ok (.ref 8))]) 0 = some 8 ∧
    ref (run [u, x 5] [0x1055, 4] [.field (.ok (.w32 .F 0xbf800000))]) 0 = some 0xbf800000 ∧
    r32 (run [u, x 5] [0x1056, 4] [.field (.ok (.w32 .C 0x1ffff))]) 0 = some 0xffff ∧
    issued (run [u, x 5] [0x1057, 4] [.field (.fails 6)]) = [.resolveField 4 5] ∧
    issued (run [u, x 5] [0x1058, 4] [.field (.fails 6)]) = [.resolveField 4 5] := by decide +kernel
/-- OB-40 and the other codes. -/
theorem test_iput : issued (run [w 0x12345, x 5] [0x105e, 4] [.done (.ok ())]) = [.resolveSetField 4 5 (.w32 .C 0x2345)] ∧
    issued (run [w 0x12345, x 5] [0x1059, 4] [.done (.ok ())]) = [.resolveSetField 4 5 (.w32 .I 0x12345)] ∧
    issued (run [x 0x12345, x 5] [0x105b, 4] [.done (.ok ())]) = [.resolveSetField 4 5 (.ref 0x12345)] ∧
    issued (run [w 0x12345, x 5] [0x105c, 4] [.done (.ok ())]) = [.resolveSetField 4 5 (.w32 .Z 0x45)] ∧
    issued (run [w 0x12345, x 5] [0x105d, 4] [.done (.ok ())]) = [.resolveSetField 4 5 (.w32 .B 0x45)] ∧
    issued (run [w 0x12345, x 5] [0x105f, 4] [.done (.ok ())]) = [.resolveSetField 4 5 (.w32 .S 0x2345)] ∧
    issued (run [x 1, x 2, x 5] [0x205a, 4] [.done (.ok ())]) = [.resolveSetField 4 5 (.w64 .J 0x200000001)] := by decide +kernel
/-- OB-41, OB-42. -/
theorem test_sget : r32 (run [u] [0x0060, 5] [.field (.ok (.w32 .Z 1))]) 0 = some 1 ∧
    issued (run [u] [0x0060, 5] [.field (.fails 6)]) = [.resolveField 5 0] ∧
    r64 (run [u, u] [0x0061, 5] [.field (.ok (.w64 .D 0x3ff0000000000000))]) 0 = some 0x3ff0000000000000 ∧
    ref (run [u] [0x0062, 5] [.field (.ok (.ref 8))]) 0 = some 8 ∧
    r32 (run [u] [0x0064, 5] [.field (.ok (.w32 .B 0xff))]) 0 = some 0xffffffff := by decide +kernel
/-- OB-43. -/
theorem test_sput : issued (run [w 0x89abcdef, w 0x01234567] [0x0068, 5] [.done (.ok ())]) =
      [.resolveSetField 5 0 (.w64 .J 0x0123456789abcdef)] ∧
    issued (run [w 0x12345] [0x006b, 5] [.done (.ok ())]) = [.resolveSetField 5 0 (.w32 .B 0x45)] ∧
    raised (run [w 0x12345] [0x0067, 5] [.done (.fails 6)]) = some 6 := by decide +kernel

/-! ### Invocation and return -/

/-- The shorty VIJ. -/
def vij : Shorty := { ret := none, params := [.w32 .I, .w64 .J] }
/-- Property 8's registers. -/
def regs8 : List (Option Word64) := [u, u, u, x 5, w 0x2a, w 0x89abcdef, w 0x01234567]
/-- Property 8 with a host call. -/
theorem test_invoke_virtual : issued (run regs8 [0x406e, 9, 0x6543]
      [.ref (.ok 2), .shorty vij, .ref (.ok 3), .bool false, .call (.returns 0)]) =
    [.call .virtual 3 (some 5) [.ref 5, .w32 .I 0x2a, .w64 .J 0x0123456789abcdef] vij, .isInterpretable 3,
      .selectTarget .virtual 2 5, .shorty 2, .resolveMethod 9 false] := by decide +kernel
/-- The rest of property 8: the result, and P8-b. -/
theorem test_invoke_virtual_void : (top (run regs8 [0x406e, 9, 0xf543]
      [.ref (.ok 2), .shorty vij, .ref (.ok 3), .bool false, .call (.returns 0)])).map (fun a => (a.pc, a.st, a.inv, a.rvw)) =
    some (3, .run, .idle, false) := by decide +kernel
/-- Property 8 with a nested activation: the callee's registers. -/
theorem test_invoke_nested : (top (run regs8 [0x406e, 9, 0x6543]
      [.ref (.ok 2), .shorty vij, .ref (.ok 3), .bool true,
        .info { units := [0x000e], nreg := 6, nins := 4, tries := [], isStatic := false }])).map (·.regs) =
    some (slots [u, u, x 5, w 0x2a, x 0x89abcdef, x 0x01234567]) := by decide +kernel
/-- IV-1 to IV-4. -/
theorem test_invoke_checks : fault (run [] [0x6071, 5, 0]) = some (.malformed 0) ∧
    fault (run [w 1] [0x1071, 5, 0] [.ref (.ok 2), .shorty { ret := none, params := [.w64 .J] }]) = some (.paramMismatch 0) ∧
    fault (run [] [0x006e, 5, 0] [.ref (.ok 2), .shorty { ret := none, params := [] }]) = some (.paramMismatch 0) ∧
    issued (run [x 0] [0x106e, 5, 0] [.ref (.ok 2), .shorty { ret := none, params := [] }, .handle 9]) =
      [.throwNew (.nullPointer .receiver), .shorty 2, .resolveMethod 5 false] := by decide +kernel
/-- IV-6, IV-8. -/
theorem test_invoke_fails :
    raised (run [x 5] [0x106e, 5, 0] [.ref (.ok 2), .shorty { ret := none, params := [] }, .ref (.fails 6)]) = some 6 ∧
    raised (run [x 5] [0x106e, 5, 0]
      [.ref (.ok 2), .shorty { ret := none, params := [] }, .ref (.ok 3), .bool false, .call (.fails 6)]) = some 6 := by
  decide +kernel
/-- IV-9, IV-10: the result in RV. -/
theorem test_invoke_static : (top (run [] [0x0071, 5, 0] [.ref (.ok 2), .shorty { ret := some (.w32 .B), params := [] }, .bool false,
      .call (.returns 0xff)])).map (·.rv) = some 0xffffffffffffffff ∧
    (top (run [] [0x0071, 5, 0] [.ref (.ok 2), .shorty { ret := some (.w32 .F), params := [] }, .bool false,
      .call (.returns 0xbfc00000)])).map (·.rv) = some 0xbfc00000 := by decide +kernel
/-- IV-11 on v0 to v2. -/
theorem test_invoke_static_range : issued (run [w 7, x 2, x 1] [0x0377, 5, 0]
      [.ref (.ok 2), .shorty vij, .bool false, .call (.returns 0)]) =
    [.call .static 2 none [.w32 .I 7, .w64 .J 0x0000000100000002] vij, .isInterpretable 2, .shorty 2, .resolveMethod 5 true] := by
  decide +kernel
/-- Each kind asks for its own target; direct takes the resolved method. -/
theorem test_invoke_kinds :
    issued (run [x 5] [0x106f, 9, 0] [.ref (.ok 2), .shorty { ret := none, params := [] }, .ref (.fails 6)]) =
      [.selectTarget .super 2 5, .shorty 2, .resolveMethod 9 false] ∧
    issued (run [x 5] [0x1072, 9, 0] [.ref (.ok 2), .shorty { ret := none, params := [] }, .ref (.fails 6)]) =
      [.selectTarget .interface 2 5, .shorty 2, .resolveMethod 9 false] ∧
    issued (run [x 5] [0x1070, 9, 0] [.ref (.ok 2), .shorty { ret := none, params := [] }, .bool false, .call (.fails 6)]) =
      [.call .direct 2 (some 5) [.ref 5] { ret := none, params := [] }, .isInterpretable 2, .shorty 2, .resolveMethod 9 false] := by
  decide +kernel
/-- The same for the range forms. -/
theorem test_invoke_range_kinds :
    issued (run [x 5] [0x0174, 9, 0] [.ref (.ok 2), .shorty { ret := none, params := [] }, .ref (.fails 6)]) =
      [.selectTarget .virtual 2 5, .shorty 2, .resolveMethod 9 false] ∧
    issued (run [x 5] [0x0175, 9, 0] [.ref (.ok 2), .shorty { ret := none, params := [] }, .ref (.fails 6)]) =
      [.selectTarget .super 2 5, .shorty 2, .resolveMethod 9 false] ∧
    issued (run [x 5] [0x0178, 9, 0] [.ref (.ok 2), .shorty { ret := none, params := [] }, .ref (.fails 6)]) =
      [.selectTarget .interface 2 5, .shorty 2, .resolveMethod 9 false] ∧
    issued (run [x 5] [0x0176, 9, 0] [.ref (.ok 2), .shorty { ret := none, params := [] }, .bool false, .call (.fails 6)]) =
      [.call .direct 2 (some 5) [.ref 5] { ret := none, params := [] }, .isInterpretable 2, .shorty 2, .resolveMethod 9 false] := by
  decide +kernel
/-- IV-13, IV-14. -/
theorem test_invoke_nins : fault (run [u, u, u, u, w 7, x 2, x 1] [0x3071, 5, 0x0654] [.ref (.ok 2), .shorty vij, .bool true,
      .info { units := [], nreg := 5, nins := 4, tries := [], isStatic := true }]) = some (.paramMismatch 0) ∧
    fault (run [u, u, u, u, w 7, u, x 1] [0x3071, 5, 0x0654] [.ref (.ok 2), .shorty vij, .bool true]) =
      some (.uninitRead (.slot 5)) := by decide +kernel

/-- A caller waiting for a nested call of an int method. -/
def waiting : Activation :=
  { act [u] [0x1071, 5, 0, 0x000a] with
    st := .calling
    inv := .callInterpreted { kind := .static, form := .packed, target := 2, args := [.w32 .I 3], ret := some (.w32 .I) } }
/-- A step of a callee above that caller. -/
def above (a : Activation) (answers : List Answer) : Option State :=
  match step { one a answers with stack := [a, waiting] } with
  | .next t => some t
  | _ => none
/-- IV-17. -/
theorem test_return_delivery : (top (above { act [] [] with st := .finished, ret := .value (.w32 .I 10) } [])).map
    (fun a => (a.rv, a.rvw, a.st, a.pc, a.inv)) = some (10, true, .run, 3, .idle) := by decide +kernel
/-- IV-18. -/
theorem test_exception_propagates : (top (above { act [] [] with st := .throwing, exc := some 6 } [])).map
    (fun a => (a.exc, a.st, a.pc, a.inv, a.rvw)) = some (some 6, .throwing, 0, .idle, false) := by decide +kernel

/-- R604: each transaction is followed by the check; a failure is found, cleared and raised. -/
theorem test_exception_checks : log (run [u] [0x0022, 4] [.ref (.ok 2), .ref (.fails 6)]) =
      [.exceptionClear, .exceptionOccurred, .newObject 2, .exceptionOccurred, .resolveClass 4] ∧
    (run [u] [0x0022, 4] [.ref (.ok 2), .ref (.fails 6)]).map (·.ports.hostExc) = some none := by decide +kernel

/-- R7: a descriptor outside its ranges is brought within them, one within them is itself. -/
theorem test_method_ranges :
    (methodInfo 2 (one (act [] []) [.info { units := [0], nreg := 70000, nins := 80000, tries := [], isStatic := true }]).ports).1 =
      { units := [0], nreg := 65535, nins := 65535, tries := [], isStatic := true } ∧
    (methodInfo 2 (one (act [] []) [.info { units := [0], nreg := 4, nins := 1, tries := [], isStatic := true }]).ports).1 =
      { units := [0], nreg := 4, nins := 1, tries := [], isStatic := true } := by decide +kernel

/-- The host's answer to a call: first it re-enters the engine with a void method of one register. -/
def reentry : List Answer := [.call (.reenters { method := 3, args := [] }),
  .info { units := [0x000e], nreg := 1, nins := 0, tries := [], isStatic := true }, .shorty { ret := none, params := [] }]
/-- R705: the chain's first activation above the invoke's, which stays as it was; the call is outstanding. -/
theorem test_reentry : (run [] [0x0071, 5, 0] (.ref (.ok 2) :: .shorty { ret := none, params := [] } :: .bool false :: reentry)).map
    (fun t => (t.stack.map fun a => (a.pc, a.st, decide (a.inv = .idle)), t.ports.calls.length)) =
      some ([(0, .run, true), (0, .run, true)], 1) := by decide +kernel
/-- The step that ends a chain inside a host call of an int method. -/
def chainEnd (a : Activation) (answers : List Answer) : Option State :=
  let call : StagedCall := { kind := .static, form := .packed, target := 2, args := [], ret := some (.w32 .I) }
  let s := one a answers
  match step { s with stack := [a, act [] [0x0071, 5, 0]], ports := { s.ports with calls := [call] } } with
  | .next t => some t
  | _ => none
/-- R563, R631: the same step ends the invoke, with the host's answer or with the exception that left the chain. -/
theorem test_chain_end :
    (chainEnd { act [] [] with st := .finished } [.call (.returns 10)]).map
      (fun t => (t.stack.map fun a => (a.pc, a.st, a.rv, a.rvw), t.ports.calls.length)) = some ([(3, .run, 10, true)], 0) ∧
    raised (chainEnd { act [] [] with st := .throwing, exc := some 6 } []) = some 6 ∧
    pc (chainEnd { act [] [] with st := .throwing, exc := some 6 } []) = some 0 := by decide +kernel

/-! ### The unwinder -/

/-- A throwing activation of 50 units. -/
def throwing (at_ : Nat) (tries : List TryRange) : Activation :=
  let a := act [u] (List.replicate 50 0)
  { a with pc := at_, st := .throwing, exc := some 6, method := { a.method with tries := tries } }
/-- The table of EX-1. -/
def ranges : List TryRange :=
  [{ start := 0, length := 10, handlers := { count := 1, pairs := [(7, 20)], catchAll := none } },
    { start := 4, length := 3, handlers := { count := 0, pairs := [], catchAll := some 30 } },
    { start := 4, length := 6, handlers := { count := 0, pairs := [], catchAll := some 40 } }]
/-- EX-1, EX-2, EX-3. -/
theorem test_unwind_ranges : pc (runAct (throwing 5 ranges)) = some 30 ∧ pc (runAct (throwing 8 ranges)) = some 40 ∧
    pc (runAct (throwing 2 ranges) [.ref (.ok 3), .bool true]) = some 20 := by decide +kernel
/-- EX-4, EX-11: the exception goes to the host. -/
theorem test_unwind_uncaught : (runAct (throwing 2 ranges) [.ref (.ok 3), .bool false]).map
    (fun t => (t.stack.length, t.ports.hostExc)) = some (0, some 6) := by decide +kernel
/-- EX-5. -/
theorem test_unwind_unresolved : pc (runAct (throwing 3
      [{ start := 0, length := 10, handlers := { count := 2, pairs := [(7, 20), (8, 25)], catchAll := none } }])
      [.ref (.fails 4), .ref (.ok 3), .bool true]) = some 25 := by decide +kernel
/-- EX-7 with a target past the 50 units, and a target equal to L. -/
theorem test_unwind_target : fault (runAct (throwing 0
      [{ start := 0, length := 8, handlers := { count := 0, pairs := [], catchAll := some 51 } }])) = some (.pcRange 51) ∧
    pc (runAct (throwing 0
      [{ start := 0, length := 8, handlers := { count := 0, pairs := [], catchAll := some 50 } }])) = some 50 := by decide +kernel

/-! ### Boot -/

/-- An idle engine with an entry call of an int method and one int parameter in four registers. -/
def idle (args : List TypedValue) : State :=
  { stack := [], fault := none, params := { maxDepth := 1, monitorNull := .npe },
    ports := { hostExc := none, entries := [{ method := 2, args := args }], delivered := none, issued := [], calls := [], draws := 0,
               answers := [.info { units := [0x000f], nreg := 4, nins := 1, tries := [], isStatic := true },
                 .shorty { ret := some (.w32 .I), params := [.w32 .I] }] } }
/-- BT-2. -/
theorem test_boot : (match step (idle [.w32 .I 5]) with | .next t => t.stack.map (·.regs) | _ => []) =
    [slots [u, u, u, w 5]] := by decide +kernel
/-- BT-3. -/
theorem test_boot_mismatch : (match step (idle []) with | .next t => t.fault | _ => none) = some (.paramMismatch 0) := by
  decide +kernel

/-! ### Witnesses

For each statement with hypotheses: concrete data that meet them together, each clause at a boundary of its range where it
has one. `regs16` has sixteen registers: v0 is the int 0 and the NULL reference, the others hold 7. -/

/-- Sixteen written registers. -/
def regs16 : List (Option Word64) := x 0 :: List.replicate 15 (x 7)
/-- An activation over them. -/
def a16 : Activation := act regs16 [0x0000]
/-- A state of that activation with some answers ready. -/
def s16 (answers : List Answer) : State := one a16 answers

/-- MovesComplete, ConstantsComplete, IntRegisterResult, IntLiteralResult, LongRegisterResult: the operands they ask for; the
last register and the last pair exist and are written. -/
theorem witness_registers : (s16 []).stack = a16 :: [] ∧ a16.i32 (15#4).toNat = .ok 7 ∧ a16.ref (15#8).toNat = .ok 7 ∧
    a16.i64 (14#16).toNat = .ok 0x0000000700000007 ∧ (15#8).toNat < a16.regs.length ∧ (14#4).toNat + 1 < a16.regs.length ∧
    a16.i32 0 = .ok 0 ∧ a16.ref 0 = .ok null := by decide +kernel

/-- An outstanding host call. -/
def held : StagedCall := { kind := .static, form := .packed, target := 2, args := [], ret := none }
/-- An invoke whose host call is outstanding: RUN, with the cursor at its first unit. -/
def invoking : Activation := act [u] [0x0071, 5, 0]
/-- A chain inside that call. -/
def inCall (a : Activation) (answers : List Answer) : State :=
  { one a answers with stack := a :: invoking :: [], ports := { (one a answers).ports with calls := [held] } }

/-- DecodeEncode has no hypothesis; EncodeDecode: a unit with the reserved byte set, and one with more units behind it. -/
theorem witness_EncodeDecode : decodes [[0xff00], [0x1201, 0x0000]] [.ok .nop, .ok (.move 2 1)] = true := by decide +kernel

theorem witness_StepRunsDecoded : (s16 []).fault = none ∧ (s16 []).stack = a16 :: [] ∧ a16.st = .run ∧
    (∀ k : Nat, ∀ v, ([0x0000#16] : List CodeUnit)[k]? = some v → a16.method.unit ((a16.pc + k : Nat) : Int) = .ok v) ∧
    decodes [[0x0000]] [.ok .nop] = true := by
  refine ⟨rfl, rfl, rfl, ?_, by decide +kernel⟩
  intro k v h
  cases k with
  | zero => cases h; decide +kernel
  | succ k => simp at h

/-- An empty stream, and a first unit whose second lies at L. -/
theorem witness_FetchOffTheEnd : (act [] []).method.len ≤ (act [] []).pc ∧ (act [] []).st = .run ∧
    (act [] [0x0013]).method.unit ((act [] [0x0013]).pc : Int) = .ok 0x0013 ∧
    (act [] [0x0013]).method.len < (act [] [0x0013]).pc + (shapeOf (lowByte 0x0013)).len := by decide +kernel

theorem witness_FaultStopsEngine : { s16 [] with fault := some (.depth 0) }.fault = some (.depth 0) ∧
    step (s16 []) = .next { s16 [] with stack := [{ a16 with pc := 1 }] } := ⟨rfl, rfl⟩

/-- A state that meets the invariant and steps: StepKeepsInv and OnlyFaultStops. -/
theorem witness_StepKeepsInv : (s16 []).inv = true ∧ (run regs16 [0x0000]).isSome = true := by decide +kernel
/-- The two stops of OnlyFaultStops. -/
theorem witness_OnlyFaultStops : State.inv { s16 [] with fault := some (.depth 0) } = true ∧
    State.inv (one (act [x 5] [0x001d]) [.monitor .unanswered]) = true := by decide +kernel
/-- Invariant states with an outstanding host call: the top of its chain running, and throwing. -/
theorem witness_StepKeepsInv_chain : State.inv (inCall { act [x 0] [] with st := .finished } []) = true ∧
    State.inv (inCall (throwing 5 []) []) = true := by decide +kernel

/-- The method of `idle`'s answers. -/
def bootInfo : MethodInfo := { units := [0x000f], nreg := 4, nins := 1, tries := [], isStatic := true }
/-- Its shorty. -/
def bootShorty : Shorty := { ret := some (.w32 .I), params := [.w32 .I] }
/-- MAX_DEPTH is 1, the least there is, or 0; one argument word as NINS asks, or none. -/
theorem witness_EntryCallBoots : (idle [.w32 .I 5]).fault = none ∧ (idle [.w32 .I 5]).stack = [] ∧
    (methodInfo 2 { (idle [.w32 .I 5]).ports with entries := [], hostExc := none }).1 = bootInfo ∧
    (shortyOf 2 (methodInfo 2 { (idle [.w32 .I 5]).ports with entries := [], hostExc := none }).2).1 = bootShorty ∧
    argWords [.w32 .I 5] = bootInfo.nins ∧ 1 ≤ (idle [.w32 .I 5]).params.maxDepth ∧
    { idle [.w32 .I 5] with params := { maxDepth := 0, monitorNull := .npe } }.params.maxDepth < 1 ∧
    (Activation.start (bootInfo.toMethod bootShorty) [.w32 .I 5]).isOk = true ∧ argWords [] ≠ bootInfo.nins := by
  decide +kernel

/-- A wide and a narrow argument in a method whose registers are all parameters, and no argument in a method with none. -/
theorem witness_ParameterSlots : argWords [.w64 .J 1, .w32 .B 0x80] = 3 ∧ 3 ≤ 3 ∧ argWords [] = 0 ∧
    (Activation.start { method 3 [] with nins := 3 } [.w64 .J 1, .w32 .B 0x80]).isOk = true := by decide +kernel

theorem witness_UnassignedTrap : (s16 []).stack = a16 :: [] := rfl

/-- The first and last unit, the units before and after, all the bytes, and one byte too many. -/
theorem witness_CodeUnits : ([0x1234, 0x5678] : List CodeUnit)[1]? = some 0x5678 ∧ (-1 : Int) < 0 ∧ (2 : Int) ≤ 2 ∧
    0 + 4 ≤ 2 * 2 ∧ 0 < 1 ∧ 2 * 2 < (4 : Int) + 1 := by decide

/-- The last slot and the last pair. -/
theorem witness_RegisterViews : 15 < a16.regs.length ∧ 14 + 1 < a16.regs.length := by decide +kernel
/-- The first index past the file, a pair whose second slot is, and unwritten slots. -/
theorem witness_RegisterFaults : a16.regs.length ≤ 16 ∧ a16.regs.length ≤ 15 + 1 ∧
    (act [u, x 7, u] []).regs[0]? = some { word := 0, written := false } ∧
    (act [u, x 7, u] []).regs[0 + 1]? = some { word := 7, written := true } ∧
    (act [u, x 7, u] []).regs[1 + 1]? = some { word := 0, written := false } ∧
    (act [u, u] []).regs[0]? = some { word := 0, written := false } ∧
    (act [u, u] []).regs[0 + 1]? = some { word := 0, written := false } ∧ a16.ok = true := by decide +kernel
/-- Instructions: a second source unwritten after a first that reads, the first source past the file, and a destination, a
pair's second slot too, past it. -/
theorem witness_RegisterFaults_instructions :
    (act [x 1, x 7, u] []).checkAll (Instr.addInt 0 1 2).sources = .error (.uninitRead (.slot 2)) ∧
    (act [x 1, x 7, u] []).checkAll (Instr.aputWide 2 5 6).sources = .error (.regRange 2) ∧
    (Instr.move 3 1).registerOnly = true ∧ (act [x 1, x 7, u] []).checkAll (Instr.move 3 1).sources = .ok () ∧
    (Instr.move 3 1).dests.head? = some 3 ∧ (∃ r ∈ (Instr.move 3 1).dests, (act [x 1, x 7, u] []).regs.length ≤ r) ∧
    (Instr.intToLong 2 1).registerOnly = true ∧ (act [x 1, x 7, u] []).checkAll (Instr.intToLong 2 1).sources = .ok () ∧
    (Instr.intToLong 2 1).dests.head? = some 2 ∧ ∃ r ∈ (Instr.intToLong 2 1).dests, (act [x 1, x 7, u] []).regs.length ≤ r := by
  decide +kernel

/-- An activation of two written registers, its RV written and an exception caught, with `n` unwritten registers after them. -/
def longer (n : Nat) : Activation :=
  { act [x 7, x 7] [] with
    rv := 5, rvw := true, exc := some 6
    regs := slots [x 7, x 7] ++ List.replicate n { word := 0#64, written := false } }
/-- What an instruction with destination v2 has left in v2, the register file being one longer. -/
def pastEnd (i : Instr) (answers : List Answer) : Option (Option Slot) :=
  match exec i (one (longer 1) answers) with
  | .next t => t.stack.head?.map fun b => b.regs[2]?
  | _ => none
/-- The last clause of RegisterFaults: instructions that would write v2, the first register past the end, were it there: of an
element, a field, a length, RV, EXC, a string, a quotient, a float sum. -/
theorem witness_RegisterFaults_pastEnd :
    longer 1 = { longer 0 with regs := (longer 0).regs ++ List.replicate 1 { word := 0#64, written := false } } ∧
    (longer 0).regs.length ≤ 2 ∧
    pastEnd (.aget 2 0 1) [.length 8, .element 3] = some (some { word := 3, written := true }) ∧
    pastEnd (.iget 2 0 4) [.field (.ok (.w32 .I 3))] = some (some { word := 3, written := true }) ∧
    pastEnd (.arrayLength 2 0) [.length 3] = some (some { word := 3, written := true }) ∧
    pastEnd (.moveResult 2) [] = some (some { word := 5, written := true }) ∧
    pastEnd (.moveException 2) [] = some (some { word := 6, written := true }) ∧
    pastEnd (.constString 2 4) [.handle 3] = some (some { word := 3, written := true }) ∧
    pastEnd (.divInt 2 0 1) [] = some (some { word := 1, written := true }) ∧
    pastEnd (.addFloat 2 0 1) [] = some (some { word := 14, written := true }) := by decide +kernel

/-- RV written with the last register and pair; RV not written; EXC held and empty. -/
theorem witness_ResultMoves : { a16 with rvw := true }.rvw = true ∧ a16.rvw = false ∧ (15#8).toNat < a16.regs.length ∧
    (14#8).toNat + 1 < a16.regs.length ∧ { a16 with exc := some 9 }.exc = some 9 ∧ a16.exc = none := by decide +kernel

/-- The ports of `s16 answers`, whose stack is `a16 :: []` and whose operands are those of `witness_registers`. -/
def ports (answers : List Answer) : Ports := (s16 answers).ports

/-- A string, a class, and a class that fails. -/
theorem witness_ConstantsComplete : (∃ p, resolveString 65535 (ports [.handle 8]) = (8, p)) ∧
    (∃ p, resolveClass 65535 (ports [.ref (.ok 8)]) = (.ok 8, p)) ∧
    (∃ p, resolveClass 65535 (ports [.ref (.fails 6)]) = (.fails 6, p)) := ⟨⟨_, rfl⟩, ⟨_, rfl⟩, _, rfl⟩

/-- A non-zero divisor in a register and as a literal; a zero divisor, int and long, and the host's new exception. -/
theorem witness_DivideAndRemainder : a16.i32 (15#8).toNat = .ok 7 ∧ (7 : Word32).toInt ≠ 0 ∧ (0xff : BitVec 8).toInt ≠ 0 ∧
    (0x8000 : BitVec 16).toInt ≠ 0 ∧ a16.i64 (14#4).toNat = .ok 0x0000000700000007 ∧ (0x0000000700000007 : Word64).toInt ≠ 0 ∧
    (∃ p, throwNew .arithmetic (ports [.handle 9]) = (9, p)) ∧ a16.i32 0 = .ok 0#32 ∧
    (act [x 0, x 0, x 7, x 7] []).i64 0 = .ok 0#64 ∧ (act [x 0, x 0, x 7, x 7] []).i64 2 = .ok 0x0000000700000007 :=
  ⟨by decide +kernel, by decide, by decide, by decide, by decide +kernel, by decide, ⟨_, rfl⟩, by decide +kernel⟩

theorem witness_DivisionLaws : (1 : Word32) ≠ 0#32 ∧ (0xffffffffffffffff : Word64) ≠ 0#64 := by decide

/-- An activation whose registers hold floats and doubles: v0 and v1 the float 1, v2 and v3 the double 1, v4 and v5 the
double 0, v6 a float NaN, v8 and v9 a double NaN. -/
def af : Activation := act [x 0x3f800000, x 0x3f800000, x 0, x 0x3ff00000, x 0, x 0, x 0x7fc00000, x 0x40000000, x 0, x 0x7ff80000] []
/-- Its operands. -/
theorem witness_float_registers : (one af []).stack = af :: [] ∧ af.i32 (0#8).toNat = .ok 0x3f800000 ∧
    af.i32 (1#4).toNat = .ok 0x3f800000 ∧ af.i64 (2#8).toNat = .ok 0x3ff0000000000000 ∧ af.i64 (4#4).toNat = .ok 0 ∧
    af.i32 (6#8).toNat = .ok 0x7fc00000 ∧ af.i32 (7#8).toNat = .ok 0x40000000 ∧ af.i64 (8#4).toNat = .ok 0x7ff8000000000000 ∧
    (9#8).toNat < af.regs.length ∧ (8#4).toNat + 1 < af.regs.length := by decide +kernel

/-- A sum of two floats and a remainder of two doubles, over `af`. -/
theorem witness_FloatArithmetic :
    (∃ v p, produce32 (FloatFormat.add binary32 (asF32 0x3f800000) (asF32 0x3f800000)) (ports []) = (v, p)) ∧
    (∃ v p, produce64 (FloatFormat.rem binary64 (asF64 0x3ff0000000000000) (asF64 0)) (ports []) = (v, p)) :=
  ⟨⟨_, _, rfl⟩, _, _, rfl⟩

theorem witness_RoundNearestEven : binary32 ∈ [binary32, binary64] ∧ 0 < 1 := by decide

/-- Values and results that are not zero, and values and results that are. -/
theorem witness_ExactThenRounded : (FloatValue.finite false 3 0).toRat + (FloatValue.finite false 2 0).toRat ≠ 0 ∧
    (FloatValue.finite false 3 0).toRat - (FloatValue.finite false 2 0).toRat ≠ 0 ∧
    (FloatValue.finite false 3 0).toRat * (FloatValue.finite false 2 0).toRat ≠ 0 ∧ (FloatValue.finite false 2 0).toRat ≠ 0 ∧
    (FloatValue.finite false 3 0).toRat - (FloatValue.finite false 2 0).toRat *
      (truncRat ((FloatValue.finite false 3 0).toRat / (FloatValue.finite false 2 0).toRat)) ≠ 0 ∧
    (FloatValue.finite false 3 0).toRat + (FloatValue.finite true 3 0).toRat = 0 ∧
    (FloatValue.finite true 3 0).toRat - (FloatValue.finite true 3 0).toRat = 0 ∧
    (FloatValue.finite true 0 0).toRat * (FloatValue.finite false 3 0).toRat = 0 ∧
    (FloatValue.finite true 4 0).toRat - (FloatValue.finite false 2 0).toRat *
      (truncRat ((FloatValue.finite true 4 0).toRat / (FloatValue.finite false 2 0).toRat)) = 0 := by
  have h : ⌊(3 / 2 : ℚ)⌋ = 1 := by norm_num [Int.floor_eq_iff]
  have h' : ⌈(-(4 / 2) : ℚ)⌉ = -2 := by norm_num [Int.ceil_eq_iff]
  norm_num [FloatValue.toRat, scaled, truncRat, h, h']
/-- A float and a double whose remainder by an infinity is taken. -/
theorem witness_ExactThenRounded_infinity : asF32 0x3f800000 = .finite false (2 ^ 23) (-23) ∧
    asF64 0x3ff0000000000000 = .finite false (2 ^ 52) (-52) := by decide +kernel
/-- A divisor of the format that is not zero. -/
theorem witness_ExactThenRounded_exact : (asF32 0x3f800000).toRat ≠ 0 ∧ (asF64 0x3ff0000000000000).toRat ≠ 0 := by
  rw [witness_ExactThenRounded_infinity.1, witness_ExactThenRounded_infinity.2]
  norm_num [FloatValue.toRat, scaled]

/-- A NaN operand, and an ordered pair, for each format, over `af`. -/
theorem witness_FloatCompare : asF32 0x7fc00000 = .nan ∧ asF64 0x7ff8000000000000 = .nan ∧
    (asF32 0x3f800000).order (asF32 0x40000000) = some .lt ∧ (asF64 0x3ff0000000000000).order (asF64 0) = some .gt ∧ (asF64 0).order (asF64 0x8000000000000000) = some .eq := by
  decide +kernel

/-- Conversions between the formats, of operands of `af`. -/
theorem witness_FloatUnaryResult : (∃ v p, produce64 (binary64.convert (asF32 0x3f800000)) (ports []) = (v, p)) ∧
    ∃ v p, produce32 (binary32.convert (asF64 0x7ff8000000000000)) (ports []) = (v, p) := ⟨⟨_, _, rfl⟩, _, _, rfl⟩

/-- At and past the ends of the range, and between them. -/
theorem witness_FloatToIntSaturates : 31 ∈ [31, 63] ∧ ((2 ^ 31 - 1 : Int) : ℚ) ≤ scaled false (2 ^ 31 - 1) 0 ∧
    scaled true (2 ^ 31) 0 ≤ ((-2 ^ 31 : Int) : ℚ) ∧ ((-2 ^ 31 : Int) : ℚ) < scaled true 5 (-1) ∧
    scaled true 5 (-1) < ((2 ^ 31 - 1 : Int) : ℚ) := by
  norm_num [scaled]

/-- An integer that is not zero, a finite value that is not and one that is, and a float. -/
theorem witness_ConversionsRounded : (1 : Int) ≠ 0 ∧ (FloatValue.finite true 3 0).toRat ≠ 0 ∧
    (FloatValue.finite true 0 0).toRat = 0 ∧ asF32 0x3f800000 = .finite false (2 ^ 23) (-23) := by
  refine ⟨by decide, ?_, ?_, by decide +kernel⟩ <;> norm_num [FloatValue.toRat, scaled]

/-- Targets 0 and L, and the two just outside, for an activation of one unit. -/
theorem witness_GotoJumps : 0 ≤ (a16.pc : Int) + (0 : BitVec 8).toInt ∧ (a16.pc : Int) + (1 : BitVec 16).toInt ≤ a16.method.len ∧
    (a16.pc : Int) + (0xff : BitVec 8).toInt < 0 ∧ (a16.method.len : Int) < a16.pc + (2 : BitVec 32).toInt := by decide +kernel

/-- A branch taken to 0, taken past L, and not taken. -/
theorem witness_ConditionalBranches : a16.i32 (15#4).toNat = .ok 7 ∧ a16.i32 (0#8).toNat = .ok 0 ∧
    (7 : Word32).toInt = (7 : Word32).toInt ∧ ¬(7 : Word32).toInt < (7 : Word32).toInt ∧
    0 ≤ (a16.pc : Int) + (0 : BitVec 16).toInt ∧ (a16.method.len : Int) < a16.pc + (2 : BitVec 16).toInt := by decide +kernel

/-- Property 5's method: the magic, the header, the last index, and an index before the first. -/
theorem witness_PackedSwitch : (act [w 12] packed).i32 (0#8).toNat = .ok 12 ∧ (act [w 12] packed).method.unit (0 + (4 : BitVec 32).toInt) = .ok 0x0100 ∧
    (act [w 12] packed).method.unit 5 = .ok 3 ∧ (act [w 12] packed).method.unit32 6 = .ok 10 ∧
    ((12 : Word32) - 10).toInt < (3 : CodeUnit).toNat ∧ (act [w 12] packed).method.unit32 (4 + 4 + 2 * 2) = .ok 7 ∧
    (7 : Int) ≤ (act [w 12] packed).method.len ∧ ((9 : Word32) - 10).toInt < 0 ∧ (3 : CodeUnit).toNat ≤ ((13 : Word32) - 10).toInt ∧
    (act [w 12] packed).method.unit 5 ≠ .ok 0x0100 := by decide +kernel

/-- Property 6's table: strictly rising keys with and without the value, and keys that do not rise. -/
theorem witness_SparseSwitch : (act [w 5] (sparse 1 5 9)).method.unit (0 + (4 : BitVec 32).toInt) = .ok 0x0200 ∧
    (act [w 5] (sparse 1 5 9)).method.unit 5 = .ok 3 ∧ (act [w 5] (sparse 1 5 9)).method.units32 6 3 = .ok [1, 5, 9] ∧
    ([1, 5, 9] : List Word32).Pairwise (fun j k => j.toInt < k.toInt) ∧ ([1, 5, 9] : List Word32)[1]? = some 5 ∧
    (act [w 5] (sparse 1 5 9)).method.unit32 (4 + 2 + 2 * 3 + 2 * 1) = .ok 11 ∧ (6 : Word32) ∉ ([1, 5, 9] : List Word32) ∧
    ¬([5, 1, 9] : List Word32).Pairwise (fun j k => j.toInt < k.toInt) := by decide +kernel

/-- The F3 clauses of the two switches: the table just before unit 0 and at L; a stream that ends behind the magic, inside the
first key, and inside the selected target. -/
theorem witness_SwitchRanges : (act [w 12] packed).i32 0 = .ok 12 ∧ 0 + (0xffffffff : BitVec 32).toInt < 0 ∧
    ((act [w 12] packed).method.len : Int) ≤ 0 + (14 : BitVec 32).toInt ∧
    (act [w 12] (packed.take 5)).method.unit 4 = .ok 0x0100 ∧ ((act [w 12] (packed.take 5)).method.len : Int) ≤ 4 + 1 ∧
    (act [w 12] (packed.take 7)).method.unit 5 = .ok 3 ∧ ((act [w 12] (packed.take 7)).method.len : Int) ≤ 4 + 3 ∧
    (act [w 12] (packed.take 13)).method.unit32 6 = .ok 10 ∧
    ((act [w 12] (packed.take 13)).method.len : Int) ≤ 4 + 5 + 2 * ((12 : Word32) - 10).toInt ∧
    (act [w 5] ((sparse 1 5 9).take 5)).method.unit 4 = .ok 0x0200 ∧ ((act [w 5] ((sparse 1 5 9).take 5)).method.len : Int) ≤ 4 + 1 ∧
    (act [w 5] ((sparse 1 5 9).take 7)).method.unit 5 = .ok 3 ∧ ((act [w 5] ((sparse 1 5 9).take 7)).method.len : Int) < 4 + 2 + 2 * 3 ∧
    (act [w 5] ((sparse 1 5 9).take 15)).method.units32 6 3 = .ok [1, 5, 9] ∧
    ((act [w 5] ((sparse 1 5 9).take 15)).method.len : Int) ≤ 4 + 2 + 2 * 3 + 2 * 1 + 1 ∧
    (act [w 9] (sparse 1 5 9)).method.unit32 16 = .ok 300 ∧ ((act [w 9] (sparse 1 5 9)).method.len : Int) < 0 + (300 : Word32).toInt ∧
    (act [w 12] [0x002b, 4, 0, 0, 0x0100, 1, 12, 0, 0xffff, 0xffff]).method.unit32 8 = .ok 0xffffffff ∧
    0 + (0xffffffff : Word32).toInt < 0 := by decide +kernel

/-- A non-null and a NULL operand. -/
theorem witness_ThrowRaises : a16.ref (15#8).toNat = .ok 7 ∧ (7 : Handle) ≠ null ∧ a16.ref (0#8).toNat = .ok null ∧
    ∃ p, throwNew (.nullPointer .throw) (ports [.handle 9]) = (9, p) :=
  ⟨by decide +kernel, by decide +kernel, by decide +kernel, _, rfl⟩

/-- Each return code, and one that is none of a return's. -/
theorem witness_ReturnsFinish : a16.method.shorty.ret = none ∧ (returning (some .L) regs16 []).method.shorty.ret ≠ none ∧
    (returning (some (.w32 .F)) regs16 []).method.shorty.ret = some (.w32 .F) ∧
    (returning (some (.w64 .D)) regs16 []).method.shorty.ret = some (.w64 .D) ∧
    (returning (some .L) regs16 []).method.shorty.ret = some .L ∧ (∀ c, a16.method.shorty.ret ≠ some (.w32 c)) ∧
    (∀ c, a16.method.shorty.ret ≠ some (.w64 c)) ∧ a16.method.shorty.ret ≠ some .L := by
  refine ⟨rfl, by decide, rfl, rfl, rfl, ?_, ?_, by decide⟩ <;> intro c h <;> cases h

/-- Every answer of the host, both values of MONITOR_NULL. -/
theorem witness_Monitors : (7 : Handle) ≠ null ∧ (∃ p, monitorEnterOn 7 (ports [.monitor .acquired]) = (.acquired, p)) ∧
    (∃ p, monitorEnterOn 7 (ports [.monitor (.fails 6)]) = (.fails 6, p)) ∧
    (∃ p, monitorEnterOn 7 (ports [.monitor .unanswered]) = (.unanswered, p)) ∧
    (∃ p, monitorExitOn 7 (ports [.done (.ok ())]) = (.ok (), p)) ∧
    (∃ p, monitorExitOn 7 (ports [.done (.fails 6)]) = (.fails 6, p)) ∧ (s16 []).params.monitorNull = .npe ∧
    { s16 [] with params := { maxDepth := 4, monitorNull := .fault } }.params.monitorNull = .fault ∧
    ∃ p, throwNew (.nullPointer .monitor) (ports [.handle 9]) = (9, p) :=
  ⟨by decide, ⟨_, rfl⟩, ⟨_, rfl⟩, ⟨_, rfl⟩, ⟨_, rfl⟩, ⟨_, rfl⟩, rfl, rfl, _, rfl⟩

/-- Each transaction completing, a length of zero, both answers of isInstanceOf. -/
theorem witness_ObjectsComplete : (∃ p, arrayLength 7 (ports [.length 3]) = (3, p)) ∧ 0 ≤ (0 : Word32).toInt ∧
    (∃ p q, resolveClass 4 (ports [.ref (.ok 2), .ref (.ok 5)]) = (.ok 2, p) ∧ newObject 2 p = (.ok 5, q)) ∧
    (∃ p q, resolveClass 4 (ports [.ref (.ok 2), .ref (.ok 5)]) = (.ok 2, p) ∧ allocArray 0 4 p = (.ok 5, q)) ∧
    (∃ p q, resolveClass 4 (ports [.ref (.ok 2), .bool true]) = (.ok 2, p) ∧ isInstanceOf 7 2 p = (true, q)) ∧
    ∃ p q, resolveClass 4 (ports [.ref (.ok 2), .bool false]) = (.ok 2, p) ∧ isInstanceOf 7 2 p = (false, q) :=
  ⟨⟨_, rfl⟩, by decide, ⟨_, _, rfl, rfl⟩, ⟨_, _, rfl, rfl⟩, ⟨_, _, rfl, rfl⟩, _, _, rfl, rfl⟩

/-- Each failure: a NULL array, a class, an object, a length of −1, an allocation, a cast. -/
theorem witness_ObjectsRaise : a16.ref (0#4).toNat = .ok null ∧
    (∃ p, throwNew (.nullPointer .array) (ports [.handle 9]) = (9, p)) ∧
    (∃ p, resolveClass 4 (ports [.ref (.fails 6)]) = (.fails 6, p)) ∧
    (∃ p q, resolveClass 4 (ports [.ref (.ok 2), .ref (.fails 6)]) = (.ok 2, p) ∧ newObject 2 p = (.fails 6, q)) ∧
    (0xffffffff : Word32).toInt < 0 ∧
    (∃ p q, resolveClass 4 (ports [.ref (.ok 2), .handle 9]) = (.ok 2, p) ∧ throwNew (.negativeArraySize (-1)) p = (9, q)) ∧
    (∃ p q, resolveClass 4 (ports [.ref (.ok 2), .ref (.fails 6)]) = (.ok 2, p) ∧ allocArray 0 4 p = (.fails 6, q)) ∧
    ∃ p q r t, resolveClass 4 (ports [.ref (.ok 2), .bool false, .handle 3, .handle 9]) = (.ok 2, p) ∧
      isInstanceOf 7 2 p = (false, q) ∧ classOf 7 q = (3, r) ∧ throwNew (.classCast 3 2) r = (9, t) :=
  ⟨by decide +kernel, ⟨_, rfl⟩, ⟨_, rfl⟩, ⟨_, _, rfl, rfl⟩, by decide, ⟨_, _, rfl, rfl⟩, ⟨_, _, rfl, rfl⟩,
    _, _, _, _, rfl, rfl, rfl, rfl⟩

/-- Ints and references, five registers and none, a refused store, a kind that is neither, a failed allocation, a count of
six. -/
theorem witness_FilledNewArray : (∃ p q r, arrayElementType 7 (ports [.elemKind (.code (.w32 .I)), .ref (.ok 8), .done (.ok ())]) =
        (.code (.w32 .I), p) ∧
      allocArray 1 7 p = (.ok 8, q) ∧ arraySetRegion 8 0 1 (.ints [7]) q = (.ok (), r)) ∧ a16.i32s [15] = .ok [7] ∧
    a16.refs [15, 0] = .ok [7, 0] ∧ (5#4).toNat ≤ 5 ∧ 5 < (6#4).toNat ∧
    (∃ p q, arrayElementType 7 (ports [.elemKind .array, .ref (.fails 6)]) = (.array, p) ∧ allocArray 2 7 p = (.fails 6, q)) ∧
    (∃ p q, arrayElementType 7 (ports [.elemKind (.code (.w64 .J)), .handle 9]) = (.code (.w64 .J), p) ∧
      throwNew (.internalError (.code (.w64 .J))) p = (9, q)) ∧
    ∃ p, arraySetRegion 8 0 1 (.ints [7]) (ports [.done (.fails 6)]) = (.fails 6, p) :=
  ⟨⟨_, _, _, rfl, rfl, rfl⟩, by decide +kernel, by decide +kernel, by decide, by decide, ⟨_, _, rfl, rfl⟩,
    ⟨_, _, rfl, rfl⟩, _, rfl⟩

/-- An element register past the file, and one that is unwritten. -/
theorem witness_FilledNewArray_registers : a16.checkAll ([15, 16].map .i32) = .error (.regRange 16) ∧
    (act [x 5, u] []).checkAll ([0, 1].map .ref) = .error (.uninitRead (.slot 1)) := by decide +kernel

/-- OB-29's method: a table of exactly the array's length, one element more, a bad width, a bad magic. -/
def filled (magic width count : CodeUnit) : Activation := act [x 5] [0x0026, 3, 0, magic, width, count, 0, 1, 0, 2, 0]
/-- The same with its stream ending after n units. -/
def cutShort (n : Nat) : Activation := act [x 5] ([0x0026, 3, 0, 0x0300, 4, 2, 0, 1, 0, 2, 0].take n)
theorem witness_FillArrayData : (filled 0x0300 4 2).ref (0#8).toNat = .ok 5 ∧ (filled 0x0300 4 2).method.unit 3 = .ok 0x0300 ∧
    (filled 0x0300 4 2).method.unit 4 = .ok 4 ∧ (filled 0x0300 4 2).method.unit32 5 = .ok 2 ∧
    (filled 0x0300 4 2).method.elements 4 (2 * (3 + 4)) 2 = .ok [1, 2] ∧ (filled 0x0300 3 2).method.unit 4 = .ok 3 ∧
    3 ∉ [1, 2, 4, 8] ∧ (filled 0x0100 4 2).method.unit 3 = .ok 0x0100 ∧ (filled 0x0300 4 3).method.unit32 5 = .ok 3 := by
  decide +kernel
theorem witness_FillArrayData_host : (∃ p q, arrayLength 5 (ports [.length 2, .done (.ok ())]) = (2, p) ∧
      arraySetRegion 5 0 2 (.raw 4 [1, 2]) p = (.ok (), q)) ∧
    (∃ p q, arrayLength 5 (ports [.length 2, .done (.fails 6)]) = (2, p) ∧
      arraySetRegion 5 0 2 (.raw 4 [1, 2]) p = (.fails 6, q)) ∧
    (∃ p q, arrayLength 5 (ports [.length 2, .handle 9]) = (2, p) ∧ throwNew (.arrayIndex 2 3) p = (9, q)) ∧
    ∃ p, throwNew (.nullPointer .array) (ports [.handle 9]) = (9, p) :=
  ⟨⟨_, _, rfl, rfl⟩, ⟨_, _, rfl, rfl⟩, ⟨_, _, rfl, rfl⟩, _, rfl⟩
/-- Its F3 clauses: the table at L, a stream that ends behind the magic, inside the count, and inside the second element. -/
theorem witness_FillArrayData_ranges : ((filled 0x0300 4 2).method.len : Int) ≤ 0 + (11 : BitVec 32).toInt ∧
    0 + (0xffffffff : BitVec 32).toInt < 0 ∧
    (cutShort 4).method.unit 3 = .ok 0x0300 ∧ ((cutShort 4).method.len : Int) ≤ 3 + 1 ∧ (cutShort 6).method.unit 4 = .ok 4 ∧
    4 ∈ [1, 2, 4, 8] ∧ ((cutShort 6).method.len : Int) ≤ 3 + 3 ∧ (cutShort 10).method.unit32 5 = .ok 2 ∧
    2 * (3 + 4) + 1 * 4 ≤ 2 * ((cutShort 10).method.len : Int) ∧
    2 * ((cutShort 10).method.len : Int) < 2 * (3 + 4) + (1 + 1) * 4 := by decide +kernel


/-- The last index of an array of eight, and each element transaction. -/
theorem witness_ArrayElements : a16.ref (15#8).toNat = .ok 7 ∧ a16.i32 (14#8).toNat = .ok 7 ∧ (7 : Handle) ≠ null ∧
    (7 : Word32).toInt < (8 : Word32).toNat ∧
    (∃ p q, arrayLength 7 (ports [.length 8, .element 1]) = (8, p) ∧ arrayGet 7 (.w32 .I) 7 p = (1, q)) ∧
    (∃ p q, arrayLength 7 (ports [.length 8]) = (8, p) ∧ arraySet 7 7 (.w32 .I 1) p = ((), q)) ∧
    (∃ p q, arrayLength 7 (ports [.length 8, .done (.ok ())]) = (8, p) ∧ arraySetRef 7 7 1 p = (.ok (), q)) ∧
    ∃ p q, arrayLength 7 (ports [.length 8, .done (.fails 6)]) = (8, p) ∧ arraySetRef 7 7 1 p = (.fails 6, q) :=
  ⟨by decide +kernel, by decide +kernel, by decide, by decide, ⟨_, _, rfl, rfl⟩, ⟨_, _, rfl, rfl⟩, ⟨_, _, rfl, rfl⟩,
    _, _, rfl, rfl⟩

/-- A NULL array, an index equal to the length, an index of −1. -/
theorem witness_ElementChecks : a16.ref (0#8).toNat = .ok null ∧ ((7 : Word32).toNat : Int) ≤ (7 : Word32).toInt ∧
    (0xffffffff : Word32).toInt < 0 ∧ (∃ p, throwNew (.nullPointer .array) (ports [.handle 9]) = (9, p)) ∧
    ∃ p q, arrayLength 7 (ports [.length 7, .handle 9]) = (7, p) ∧ throwNew (.arrayIndex 7 7) p = (9, q) :=
  ⟨by decide +kernel, by decide, by decide, ⟨_, rfl⟩, _, _, rfl, rfl⟩

/-- A narrow value into the last register, a wide one into the last pair, a failure, a NULL object. -/
theorem witness_FieldGets : (∃ p, resolveField 4 7 (ports [.field (.ok (.w32 .B 0x80))]) = (.ok (.w32 .B 0x80), p)) ∧
    15 + (TypedValue.w32 .B 0x80).code.width ≤ a16.regs.length ∧ 14 + (TypedValue.w64 .J 0).code.width ≤ a16.regs.length ∧
    (∃ p, resolveField 4 null (ports [.field (.fails 6)]) = (.fails 6, p)) ∧ a16.ref (0#4).toNat = .ok null ∧
    ∃ p, throwNew (.nullPointer .object) (ports [.handle 9]) = (9, p) :=
  ⟨⟨_, rfl⟩, by decide +kernel, by decide +kernel, ⟨_, rfl⟩, by decide +kernel, _, rfl⟩

theorem witness_FieldPuts : a16.typed (.w32 .B) (15#4).toNat = .ok (.w32 .B 7) ∧ a16.typed (.w64 .J) (14#8).toNat = .ok (.w64 .J 0x0000000700000007) ∧
    a16.typed .L (15#8).toNat = .ok (.ref 7) ∧ (∃ p, resolveSetField 4 7 (.w32 .B 7) (ports [.done (.ok ())]) = (.ok (), p)) ∧
    ∃ p, resolveSetField 4 null (.w32 .B 7) (ports [.done (.fails 6)]) = (.fails 6, p) :=
  ⟨by decide +kernel, by decide +kernel, by decide +kernel, ⟨_, rfl⟩, _, rfl⟩

/-- The answers up to the target of a static call without parameters. -/
def called (more : List Answer) : State := s16 (.ref (.ok 2) :: .shorty { ret := none, params := [] } :: more)
/-- An invoke-static of that call decodes: no register, the smallest count. -/
theorem witness_Decoded_static (more : List Answer) : IsInvoke (.invokeStatic 0 5 0 0 0 0 0) .static .packed 5 [] ∧
    Decoded (called more) a16 .static 5 [] { ret := none, params := [] } none 2 []
      { ports more with issued := [.exceptionOccurred, .shorty 2, .exceptionOccurred, .resolveMethod 5 true] } :=
  ⟨.packed .static 0 5 0 0 0 0 0 (by decide),
    ⟨2, { ports (.shorty { ret := none, params := [] } :: more) with issued := [.exceptionOccurred, .resolveMethod 5 true] }, _, rfl, rfl,
      .inl ⟨.inl rfl, rfl, rfl⟩⟩, rfl, .inl ⟨rfl, rfl⟩, [], rfl, rfl⟩

/-- The answers up to the target of a virtual call with one long parameter. -/
def calledVirtual (more : List Answer) : State :=
  s16 (.ref (.ok 2) :: .shorty { ret := none, params := [.w64 .J] } :: .ref (.ok 3) :: more)
/-- A range invoke with a receiver and a pair, the last registers of the file. -/
theorem witness_Decoded_virtual (more : List Answer) :
    IsInvoke (.invokeVirtualRange 3 5 13) .virtual .range 5 ((List.range 3).map (13 + ·)) ∧
    Decoded (calledVirtual more) a16 .virtual 5 ((List.range 3).map (13 + ·)) { ret := none, params := [.w64 .J] } (some 7) 3
      [.ref 7, .w64 .J 0x0000000700000007]
      { ports more with issued := [.exceptionOccurred, .selectTarget .virtual 2 7, .exceptionOccurred, .shorty 2,
        .exceptionOccurred, .resolveMethod 5 false] } :=
  ⟨.range .virtual 3 5 13,
    ⟨2, { ports (.shorty { ret := none, params := [.w64 .J] } :: .ref (.ok 3) :: more) with
        issued := [.exceptionOccurred, .resolveMethod 5 false] },
      _, rfl, rfl, .inr ⟨by decide, by decide, rfl⟩⟩, rfl, .inr ⟨by decide, 7, rfl, by decide +kernel, by decide⟩,
    [.w64 .J 0x0000000700000007], by decide +kernel, rfl⟩

/-- The answers of a re-entry whose method takes one argument word. -/
def entered (args : List TypedValue) : List Answer :=
  [.call (.reenters { method := 2, args := args }), .info bootInfo, .shorty bootShorty]
/-- Behind either decode: a host call that returns, fails, and re-enters; the entry call with as many words as NINS, without,
and at and below MAX_DEPTH. -/
theorem witness_InvokeHostCall : (∃ p, isInterpretable 2 (ports [.bool false, .call (.returns 1)]) = (false, p)) ∧
    (∃ p, callAnswer (ports [.call (.returns 1)]) = (.returns 1, p)) ∧ (∃ p, callAnswer (ports [.call (.fails 6)]) = (.fails 6, p)) ∧
    (∀ args, ∃ p q r, callAnswer (ports (entered args)) = (.reenters { method := 2, args := args }, p) ∧
      methodInfo 2 p = (bootInfo, q) ∧ shortyOf 2 q = (bootShorty, r)) ∧
    argWords [] ≠ bootInfo.nins ∧ argWords [.w32 .I 5] = bootInfo.nins ∧ (s16 []).stack.length < (s16 []).params.maxDepth ∧
    (idle []).params.maxDepth ≤ (s16 []).stack.length ∧
    ∃ b, Activation.start (bootInfo.toMethod bootShorty) [.w32 .I 5] = .ok b :=
  ⟨⟨_, rfl⟩, ⟨_, rfl⟩, ⟨_, rfl⟩, fun _ => ⟨_, _, _, rfl, rfl, rfl⟩, by decide, by decide, by decide, by decide, _, rfl⟩

/-- A callee with NINS equal to the words and another without; a stack below MAX_DEPTH and one at it. -/
theorem witness_InvokeNested : (∃ p, isInterpretable 2 (ports [.bool true]) = (true, p)) ∧
    (∃ p, methodInfo 2 (ports [.info bootInfo]) = (bootInfo, p)) ∧ ([] : List Nat).length ≠ bootInfo.nins ∧
    ([15] : List Nat).length = bootInfo.nins ∧ (s16 []).stack.length < (s16 []).params.maxDepth ∧
    (idle []).params.maxDepth ≤ (s16 []).stack.length ∧
    ∃ b, Activation.start (bootInfo.toMethod bootShorty) [.w32 .I 7] = .ok b :=
  ⟨⟨_, rfl⟩, ⟨_, rfl⟩, by decide, by decide, by decide, by decide, _, rfl⟩

/-- A count of six; a method that fails; words that do not match; a NULL receiver; a target that fails. -/
theorem witness_InvokeChecks : 5 < (6#4).toNat ∧ (∃ p, resolveMethod 5 true (ports [.ref (.fails 6)]) = (.fails 6, p)) ∧
    (∃ p q, resolveMethod 5 true (ports [.ref (.ok 2), .shorty bootShorty]) = (.ok 2, p) ∧ shortyOf 2 p = (bootShorty, q)) ∧
    0 + paramWords bootShorty.params ≠ ([] : List Nat).length ∧ 1 + paramWords bootShorty.params = [0, 15].length ∧
    a16.ref ([0, 15].headD 0) = .ok null ∧ (∃ p, throwNew (.nullPointer .receiver) (ports [.handle 9]) = (9, p)) ∧
    a16.ref ([15, 0].headD 0) = .ok 7 ∧ ∃ p, selectTarget .super 2 7 (ports [.ref (.fails 6)]) = (.fails 6, p) :=
  ⟨by decide, ⟨_, rfl⟩, ⟨_, _, rfl, rfl⟩, by decide, by decide, by decide +kernel, ⟨_, rfl⟩, by decide +kernel, _, rfl⟩

/-- Registers that cannot be read: a receiver past the file, a receiver unwritten, a long pair whose
second slot is past the file (IV-12) and a parameter that is unwritten (IV-14). -/
theorem witness_InvokeChecks_registers : 1 + paramWords [] = [16].length ∧ a16.ref ([16].headD 0) = .error (.regRange 16) ∧
    (act [u] []).ref ([0].headD 0) = .error (.uninitRead (.slot 0)) ∧
    paramSources [.w32 .I, .w64 .J] [14, 15, 16] = [.i32 14, .i64 15] ∧ paramWords [.w32 .I, .w64 .J] = [14, 15, 16].length ∧
    a16.checkAll (paramSources [.w32 .I, .w64 .J] [14, 15, 16]) = .error (.regRange 15) ∧
    (act [x 7, u, x 1] []).checkAll (paramSources [.w32 .I, .w64 .J] [0, 1, 2]) = .error (.uninitRead (.slot 1)) ∧
    (∃ p, selectTarget .virtual 2 7 (ports [.ref (.ok 3)]) = (.ok 3, p)) :=
  ⟨by decide, by decide +kernel, by decide +kernel, by decide, by decide, by decide +kernel, by decide +kernel, _, rfl⟩

/-- A finished activation above a caller that waits for it. -/
theorem witness_ReturnDelivery : { act [] [] with st := .finished }.st = .finished ∧ ∃ call, waiting.inv = .callInterpreted call :=
  ⟨rfl, _, rfl⟩

/-- A throwing activation with a handler at a target inside and outside [0, L], and with none above a waiting caller. -/
theorem witness_Unwinding : (throwing 5 ranges).st = .throwing ∧ (throwing 5 ranges).exc = some 6 ∧
    (∃ p, (throwing 5 ranges).findHandler 6 (ports []) = (some 30, p)) ∧ (0 : Int) ≤ 30 ∧ (30 : Int) ≤ (throwing 5 ranges).method.len ∧
    (∃ p, (throwing 0 [{ start := 0, length := 1, handlers := { count := 0, pairs := [], catchAll := some 51 } }]).findHandler 6
      (ports []) = (some 51, p)) ∧ ((throwing 5 ranges).method.len : Int) < 51 ∧
    (∃ p, (throwing 5 []).findHandler 6 (ports []) = (none, p)) ∧ ∃ call, waiting.inv = .callInterpreted call :=
  ⟨rfl, rfl, ⟨_, rfl⟩, by decide, by decide, ⟨_, rfl⟩, by decide, ⟨_, rfl⟩, _, rfl⟩

/-- The last activation of such a chain ends with a result or an exception; the host then answers, fails, or re-enters the
engine once more. -/
theorem witness_ChainEnds : { act [x 0] [] with st := .finished }.st = .finished ∧ (throwing 5 []).exc = some 6 ∧
    (∃ p, (throwing 5 []).findHandler 6 (ports []) = (none, p)) ∧ (∀ c, invoking.inv ≠ .callInterpreted c) ∧
    (inCall (throwing 5 []) []).ports.calls = held :: [] ∧
    (∃ p, callAnswer (ports [.call (.returns 1)]) = (.returns 1, p)) ∧ (∃ p, callAnswer (ports [.call (.fails 6)]) = (.fails 6, p)) ∧
    ∃ b p p', callAnswer (ports reentry) = (.reenters { method := 3, args := [] }, p) ∧
      startChain 4 1 { method := 3, args := [] } p = (.ok b, p') :=
  ⟨rfl, rfl, ⟨_, rfl⟩, (fun c h => by cases h), rfl, ⟨_, rfl⟩, ⟨_, rfl⟩, _, _, _, rfl, rfl⟩
/-- A re-entry that faults: a stack at MAX_DEPTH. -/
theorem witness_ChainEnds_fault : ∃ p p', callAnswer (ports reentry) = (.reenters { method := 3, args := [] }, p) ∧
    startChain 1 1 { method := 3, args := [] } p = (.error (.depth 0), p') := ⟨_, _, rfl, rfl⟩
/-- The step clause of CallerIsolation, with the top one popped: FINISHED, and THROWING with no handler. -/
theorem witness_CallerIsolation_popped : { act [x 0] [] with st := .finished }.st = .finished ∧
    (∃ t, step (inCall { act [x 0] [] with st := .finished } [.call (.returns 1)]) = .next t) ∧ (throwing 5 []).st = .throwing ∧
    (∃ e p, (throwing 5 []).exc = some e ∧ (throwing 5 []).findHandler e (ports []) = (none, p)) ∧
    ∃ t, step (inCall (throwing 5 []) []) = .next t := ⟨rfl, ⟨_, rfl⟩, rfl, ⟨_, _, rfl, rfl⟩, _, rfl⟩
/-- The same with the top one staying: a step of a chain above an invoke. -/
theorem witness_CallerIsolation : (inCall { act [] [0x0000] with st := .run } []).stack = act [] [0x0000] :: invoking :: [] ∧
    ∃ t, step (inCall { act [] [0x0000] with st := .run } []) = .next t := ⟨rfl, _, rfl⟩

/-- EX-1: at 5 the second range is selected; at 10, the end of the first, none is. -/
theorem witness_RangeSelection : selectRange 5 none ranges = some { start := 4, length := 3, handlers := { count := 0, pairs := [], catchAll := some 30 } } ∧
    selectRange 10 none ranges = none ∧ (throwing 5 ranges).pc = 5 ∧ (throwing 5 ranges).method.tries = ranges := by decide +kernel

/-- A type that fails, one that does not match, one that does; a list with and without a catch-all. -/
theorem witness_HandlerSearch : (∃ p, resolveClass 7 (ports [.ref (.fails 4)]) = (.fails 4, p)) ∧
    (∃ p q, resolveClass 7 (ports [.ref (.ok 3), .bool false]) = (.ok 3, p) ∧ isInstanceOf 6 3 p = (false, q)) ∧
    (∃ p q, resolveClass 7 (ports [.ref (.ok 3), .bool true]) = (.ok 3, p) ∧ isInstanceOf 6 3 p = (true, q)) ∧
    ([(7, 20)] : List (Nat × Int)).length = (1 : Int).natAbs ∧ ([(7, 20)] : List (Nat × Int)).length = (-1 : Int).natAbs ∧
    ((none : Option Int).isSome ↔ (1 : Int) ≤ 0) ∧ ((some (30 : Int)).isSome ↔ (-1 : Int) ≤ 0) ∧
    (∃ p, matchTyped 6 [(7, 20)] (ports [.ref (.ok 3), .bool true]) = (some 20, p)) ∧
    ∃ p, matchTyped 6 [(7, 20)] (ports [.ref (.fails 4)]) = (none, p) :=
  ⟨⟨_, rfl⟩, ⟨_, _, rfl, rfl⟩, ⟨_, _, rfl, rfl⟩, by decide, by decide, by decide, by decide, ⟨_, rfl⟩, _, rfl⟩

/-- CallerIsolation, DestinationFrame, ExceptionChecks: an instruction that completes. -/
theorem witness_frames : (s16 []).stack = a16 :: [] ∧ exec (.move 15 1) (s16 []) =
    .next { s16 [] with stack := [] ++ { a16 with regs := a16.regs.set 15 { word := 7, written := true }, pc := 1 } :: [] } :=
  ⟨rfl, rfl⟩
/-- ExceptionChecks: one that issues a transaction, which fails. -/
theorem witness_ExceptionChecks : (s16 [.ref (.fails 6)]).ports.hostExc = none ∧ ∃ t,
    exec (.constClass 1 5) (s16 [.ref (.fails 6)]) = .next t ∧
    t.ports.issued = [.exceptionClear, .exceptionOccurred, .resolveClass 5] ++ (s16 [.ref (.fails 6)]).ports.issued :=
  ⟨rfl, _, rfl, rfl⟩
/-- ExceptionChecks: a host call that is answered at once, one inside which the host re-enters, and the step that answers it. -/
theorem witness_ExceptionChecks_calls :
    log (run [] [0x0071, 5, 0] [.ref (.ok 2), .shorty { ret := none, params := [] }, .bool false, .call (.returns 0)]) =
      [.exceptionOccurred, .call .static 2 none [] { ret := none, params := [] }, .exceptionOccurred, .isInterpretable 2,
        .exceptionOccurred, .shorty 2, .exceptionOccurred, .resolveMethod 5 true] ∧
    (log (run [] [0x0071, 5, 0] (.ref (.ok 2) :: .shorty { ret := none, params := [] } :: .bool false :: reentry))).take 5 =
      [.exceptionOccurred, .shorty 3, .exceptionOccurred, .methodInfo 3, .call .static 2 none [] { ret := none, params := [] }] ∧
    log (chainEnd { act [] [] with st := .finished } [.call (.returns 10)]) = [.exceptionOccurred] := by decide +kernel
/-- RaisesArePrecise: one that raises. -/
theorem witness_RaisesArePrecise : a16.st ≠ .throwing ∧ exec (.throwObj 15) (s16 []) =
    .next { s16 [] with stack := [] ++ { a16 with st := .throwing, exc := some 7 } :: [] } := ⟨by decide, rfl⟩
/-- FaultsWriteNothing: one that faults. -/
theorem witness_FaultsWriteNothing : (s16 []).fault = none ∧ exec (.move 0 15) (one (act [x 0] []) []) =
    .next { one (act [x 0] []) [] with
      fault := some (.regRange 15)
      ports := { (one (act [x 0] []) []).ports with delivered := some (.aborted (.regRange 15)) } } := ⟨rfl, rfl⟩

end Sys2Proof.Tests
end

section
/-! What the parts of a handler keep, and how a handler can end (spec/40_dispatch.md R174, R180): the parts that read,
write, ask and check are steady, the last part completes the instruction. -/

namespace Sys2Proof.Machine

/-! ### What a part keeps -/

/-- `b` is `a` but for the contents of its registers, EXC and RV. -/
structure Activation.Alike (a b : Activation) : Prop where
  method : b.method = a.method
  slots : b.regs.length = a.regs.length
  pc : b.pc = a.pc
  st : b.st = a.st
  inv : b.inv = a.inv

/-- What every ending of a handler keeps (R11, R31, R101, R604): the method and the number of slots of its activation, the
waiting entry calls, and a clear exception-raised state of the host. -/
structure Ctx.Frame (c c' : Ctx) : Prop where
  method : c'.top.method = c.top.method
  slots : c'.top.regs.length = c.top.regs.length
  entries : c'.ports.entries = c.ports.entries
  clear : c.ports.hostExc = none → c'.ports.hostExc = none

/-- What a part of a handler keeps that does not complete the instruction. -/
structure Ctx.Same (c c' : Ctx) : Prop where
  top : c.top.Alike c'.top
  callee : c'.callee = c.callee
  depth : c'.depth = c.depth
  params : c'.params = c.params
  entries : c'.ports.entries = c.ports.entries
  calls : c'.ports.calls = c.ports.calls
  clear : c.ports.hostExc = none → c'.ports.hostExc = none

theorem Activation.Alike.refl (a : Activation) : a.Alike a := ⟨rfl, rfl, rfl, rfl, rfl⟩

theorem Activation.Alike.trans {a b c : Activation} (h : a.Alike b) (g : b.Alike c) : a.Alike c :=
  ⟨g.method.trans h.method, g.slots.trans h.slots, g.pc.trans h.pc, g.st.trans h.st, g.inv.trans h.inv⟩

theorem Ctx.Frame.trans {c d e : Ctx} (h : c.Frame d) (g : d.Frame e) : c.Frame e :=
  ⟨g.method.trans h.method, g.slots.trans h.slots, g.entries.trans h.entries, fun w => g.clear (h.clear w)⟩

theorem Ctx.Same.refl (c : Ctx) : c.Same c := ⟨.refl _, rfl, rfl, rfl, rfl, rfl, id⟩

theorem Ctx.Same.trans {c d e : Ctx} (h : c.Same d) (g : d.Same e) : c.Same e :=
  ⟨h.top.trans g.top, g.callee.trans h.callee, g.depth.trans h.depth, g.params.trans h.params,
    g.entries.trans h.entries, g.calls.trans h.calls, fun w => g.clear (h.clear w)⟩

theorem Ctx.Same.frame {c d : Ctx} (h : c.Same d) : c.Frame d := ⟨h.top.method, h.top.slots, h.entries, h.clear⟩

/-- A new top activation that is like the old one. -/
theorem Ctx.Same.of_top (c : Ctx) {a : Activation} (h : c.top.Alike a) : c.Same { c with top := a } :=
  ⟨h, rfl, rfl, rfl, rfl, rfl, id⟩

theorem Activation.alike_putSlot (a : Activation) (i : Nat) (w : Word64) : a.Alike (a.putSlot i w) :=
  ⟨rfl, by simp, rfl, rfl, rfl⟩

theorem Activation.alike_putI64 (a : Activation) (i : Nat) (v : Word64) : a.Alike (a.putI64 i v) :=
  ⟨rfl, by simp, rfl, rfl, rfl⟩

/-- A checked update of an activation that, where it succeeds, gives one like it. -/
theorem alike_of_guard {a b x : Activation} {q : Prop} [Decidable q] {f : EngineFault}
    (h : (if q then .ok x else .error f : Checked Activation) = .ok b) (hx : a.Alike x) : a.Alike b := by
  split at h
  · cases h; exact hx
  · cases h

/-! ### Steady parts -/

/-- The context an ending leaves. -/
def resultCtx {α : Type} : EStateM.Result Ended Ctx α → Ctx
  | .ok _ c => c
  | .error _ c => c

/-- A part of a handler that changes nothing but registers, EXC, RV and the ports' answers, however it ends. -/
def Steady {α : Type} (x : Handler α) : Prop := ∀ c : Ctx, c.Same (resultCtx (x c))

section
variable {α β : Type}

theorem steady_pure (v : α) : Steady (pure v : Handler α) := fun c => .refl c

theorem steady_bind {x : Handler α} {f : α → Handler β} (hx : Steady x) (hf : ∀ v, Steady (f v)) : Steady (x >>= f) := by
  intro c
  have h := hx c
  rw [handler_bind]
  cases hr : x c with
  | ok v d =>
    rw [hr] at h
    exact h.trans (hf v d)
  | error e d =>
    rw [hr] at h
    exact h

theorem steady_ite {q : Prop} [Decidable q] {x y : Handler α} (hx : Steady x) (hy : Steady y) :
    Steady (if q then x else y) := by
  split
  · exact hx
  · exact hy

theorem steady_getTop : Steady getTop := fun c => .refl c

theorem steady_checked (x : Checked α) : Steady (checked x) := fun c => by cases x <;> exact .refl c

theorem steady_faultWith (f : EngineFault) : Steady (faultWith f : Handler α) := fun c => .refl c

/-- A quiet transaction. -/
theorem steady_ask {m : Port α} (h : Quiet m) : Steady (ask m) := fun c => by
  obtain ⟨clear, entries, -, calls⟩ := h c.ports
  exact ⟨.refl _, rfl, rfl, rfl, entries, calls, clear⟩

theorem steady_raise (x : Cause) : Steady (raise x : Handler α) :=
  steady_bind (steady_ask (quiet_exceptionObject x)) fun _ c => .refl c

theorem steady_orResolution (r : Reply α) : Steady (orResolution r) := by
  cases r with
  | ok v => exact steady_pure v
  | fails e => exact steady_raise _

theorem steady_orHost (r : Reply α) : Steady (orHost r) := by
  cases r with
  | ok v => exact steady_pure v
  | fails e => exact steady_raise _

theorem steady_query (r : Request) (pick : Answer → Option α) (free : Nat → α) : Steady (ask (query r pick free)) :=
  steady_ask (query_frame r pick free).1

theorem steady_attempt (r : Request) (pick : Answer → Option (Reply α)) (free : Nat → Reply α) :
    Steady (ask (attempt r pick free)) := steady_ask (attempt_frame r pick free).1

end

theorem steady_readI32 (i : Nat) : Steady (readI32 i) := steady_bind steady_getTop fun _ => steady_checked _
theorem steady_readI64 (i : Nat) : Steady (readI64 i) := steady_bind steady_getTop fun _ => steady_checked _
theorem steady_readRef (i : Nat) : Steady (readRef i) := steady_bind steady_getTop fun _ => steady_checked _
theorem steady_readUnit (k : Int) : Steady (readUnit k) := steady_bind steady_getTop fun _ => steady_checked _
theorem steady_readUnit32 (k : Int) : Steady (readUnit32 k) := steady_bind steady_getTop fun _ => steady_checked _
theorem steady_readTyped (t : TypeCode) (r : Nat) : Steady (readTyped t r) :=
  steady_bind steady_getTop fun _ => steady_checked _

/-- A checked update of the top activation. -/
theorem steady_update {f : Activation → Checked Activation} (h : ∀ {a b : Activation}, f a = .ok b → a.Alike b) :
    Steady (getTop >>= fun a => checked (f a) >>= fun b => setTop b) := fun c => by
  rw [handler_bind, getTop_run]
  dsimp only
  rw [handler_bind]
  cases hb : f c.top with
  | ok b => exact .of_top c (h hb)
  | error e => exact .refl c

theorem steady_writeI32 (i : Nat) (v : Word32) : Steady (writeI32 i v) :=
  steady_update (f := fun a => a.setI32 i v) fun h => alike_of_guard h (Activation.alike_putSlot _ _ _)
theorem steady_writeF32 (i : Nat) (v : Word32) : Steady (writeF32 i v) :=
  steady_update (f := fun a => a.setF32 i v) fun h => alike_of_guard h (Activation.alike_putSlot _ _ _)
theorem steady_writeI64 (i : Nat) (v : Word64) : Steady (writeI64 i v) :=
  steady_update (f := fun a => a.setI64 i v) fun h => alike_of_guard h (Activation.alike_putI64 _ _ _)
theorem steady_writeRef (i : Nat) (h : Handle) : Steady (writeRef i h) :=
  steady_update (f := fun a => a.setRef i h) fun g => alike_of_guard g (Activation.alike_putSlot _ _ _)

theorem steady_readRV : Steady readRV := steady_bind steady_getTop fun _ => steady_ite (steady_pure _) (steady_faultWith _)

theorem steady_clearExc : Steady clearExc := fun c => .of_top c ⟨rfl, rfl, rfl, rfl, rfl⟩

theorem steady_classRef (idx : Nat) : Steady (classRef idx) :=
  steady_bind (steady_attempt _ _ _) fun _ => steady_orResolution _

theorem steady_requireNonNull (h : Handle) (what : NullWhat) : Steady (requireNonNull h what) :=
  steady_ite (steady_raise _) (steady_pure _)

theorem steady_instanceOrNull (h cls : Handle) (b : Bool) : Steady (instanceOrNull h cls b) :=
  steady_ite (steady_pure _) (steady_query _ _ _)

theorem steady_checkMagic (magic : CodeUnit) (t : Int) : Steady (checkMagic magic t) :=
  steady_bind (steady_readUnit t) fun _ => steady_ite (steady_pure _) (steady_faultWith _)

theorem steady_checkCount (n : BitVec 4) : Steady (checkCount n) :=
  steady_bind steady_getTop fun _ => steady_ite (steady_faultWith _) (steady_pure _)

theorem steady_checkElement (arr : Handle) (idx : Int) : Steady (checkElement arr idx) :=
  steady_bind (steady_requireNonNull _ _) fun _ => steady_bind (steady_query _ _ _) fun _ =>
    steady_ite (steady_raise _) (steady_pure _)

theorem steady_getElement (t : TypeCode) (arrReg idxReg : Nat) : Steady (getElement t arrReg idxReg) :=
  steady_bind (steady_readRef _) fun _ => steady_bind (steady_readI32 _) fun _ =>
    steady_bind (steady_checkElement _ _) fun _ => steady_query _ _ _

theorem steady_readFilled (k : ElemKind) (regs : List Nat) : Steady (readFilled k regs) :=
  steady_bind steady_getTop fun _ => by
    split
    · exact steady_checked _
    · exact steady_checked _
    · exact steady_checked _
    · exact steady_raise _

theorem steady_writeField (dst : Nat) (v : TypedValue) : Steady (writeField dst v) := by
  unfold writeField
  split
  · exact steady_writeF32 _ _
  · exact steady_writeI32 _ _
  · exact steady_writeI64 _ _
  · exact steady_writeRef _ _

theorem steady_nullMonitor (pc0 : Nat) : Steady (nullMonitor pc0) := by
  refine steady_bind (x := get) (fun c => .refl c) fun c => ?_
  cases c.params.monitorNull with
  | fault => exact steady_faultWith _
  | npe => exact steady_raise _

theorem steady_readReceiver (kind : InvokeKind) (regs : List Nat) : Steady (readReceiver kind regs) := by
  unfold readReceiver
  split
  · exact steady_pure _
  · exact steady_bind (steady_readRef _) fun _ => steady_bind (steady_requireNonNull _ _) fun _ => steady_pure _

theorem steady_chooseTarget (kind : InvokeKind) (m : Handle) (recv : Option Handle) :
    Steady (chooseTarget kind m recv) := by
  unfold chooseTarget
  split
  · exact steady_pure _
  · exact steady_pure _
  · exact steady_bind (steady_attempt _ _ _) fun _ => steady_orResolution _

/-! ### Endings -/

/-- How an invoke completes (R562 to R564, R705): the host has answered; a callee is pushed and waited for; or the host has
re-entered the engine, its call held. A pushed activation is well-formed, running, and within MAX_DEPTH. -/
inductive Ctx.Called (c c' : Ctx) : Prop where
  | resumes (callee : c'.callee = c.callee) (calls : c'.ports.calls = c.ports.calls) (pc : c'.top.pc = c.top.pc + 3)
      (st : c'.top.st = .run) (inv : c'.top.inv = .idle)
  | waits (b : Activation) (call : StagedCall) (callee : c'.callee = some b) (calls : c'.ports.calls = c.ports.calls)
      (pc : c'.top.pc = c.top.pc) (st : c'.top.st = .calling) (inv : c'.top.inv = .callInterpreted call)
      (ok : b.ok = true) (running : b.st = .run) (depth : c.depth < c.params.maxDepth)
  | reenters (b : Activation) (call : StagedCall) (callee : c'.callee = some b)
      (calls : c'.ports.calls = call :: c.ports.calls) (pc : c'.top.pc = c.top.pc) (st : c'.top.st = .run)
      (inv : c'.top.inv = .idle) (ok : b.ok = true) (running : b.st = .run) (depth : c.depth < c.params.maxDepth)

/-- How an instruction of at most `n` units completes (R174 to R177, R446): its activation goes on, `n` units further at
most or at a target in [0, L]; it has returned a value of its method's return code; or it is an invoke. -/
inductive Ctx.Completed (n : Nat) (c c' : Ctx) : Prop where
  | goesOn (callee : c'.callee = c.callee) (calls : c'.ports.calls = c.ports.calls)
      (pc : c'.top.pc ≤ c.top.pc + n ∨ c'.top.pc ≤ c.top.method.len) (st : c'.top.st = c.top.st)
      (inv : c'.top.inv = c.top.inv)
  | returns (callee : c'.callee = c.callee) (calls : c'.ports.calls = c.ports.calls) (pc : c'.top.pc = c.top.pc)
      (inv : c'.top.inv = c.top.inv) (ok : c.top.inv = .idle → c'.top.statusOk = true) (st : c'.top.st = .finished)
  | called (units : 3 ≤ n) (h : c.Called c')

/-- The endings of a handler of an instruction of `n` units that completes as `D` says: an exception leaves the cursor at
most `n` units further and the outstanding host calls as they are, and every ending keeps the frame. -/
def Ends (D : Ctx → Ctx → Prop) (n : Nat) (c : Ctx) : EStateM.Result Ended Ctx Unit → Prop
  | .ok _ c' => c.Frame c' ∧ D c c'
  | .error (.raised _) c' => c.Frame c' ∧ c'.top.pc ≤ c.top.pc + n ∧ c'.ports.calls = c.ports.calls
  | .error (.faulted _) c' => c.Frame c'
  | .error .unanswered c' => c.Frame c'

/-- A handler of an instruction of `n` units. -/
def Sound (n : Nat) (h : Handler Unit) : Prop := ∀ c : Ctx, Ends (Ctx.Completed n) n c (h c)

/-- A handler, or the last part of one, that makes a call. -/
def Calls (h : Handler Unit) : Prop := ∀ c : Ctx, Ends Ctx.Called 3 c (h c)

/-- A way to complete that may come after a steady part. -/
def AfterSame (D : Ctx → Ctx → Prop) : Prop := ∀ c d e : Ctx, c.Same d → D d e → D c e

theorem called_afterSame : AfterSame Ctx.Called := by
  intro c d e s h
  cases h with
  | resumes callee calls pc st inv =>
    exact .resumes (callee.trans s.callee) (calls.trans s.calls) (by rw [pc, s.top.pc]) st inv
  | waits b call callee calls pc st inv ok running depth =>
    exact .waits b call callee (calls.trans s.calls) (pc.trans s.top.pc) st inv ok running
      (by rwa [s.depth, s.params] at depth)
  | reenters b call callee calls pc st inv ok running depth =>
    exact .reenters b call callee (by rw [calls, s.calls]) (pc.trans s.top.pc) st inv ok running
      (by rwa [s.depth, s.params] at depth)

theorem completed_afterSame (n : Nat) : AfterSame (Ctx.Completed n) := by
  intro c d e s h
  cases h with
  | goesOn callee calls pc st inv =>
    rw [s.top.pc, s.top.method] at pc
    exact .goesOn (callee.trans s.callee) (calls.trans s.calls) pc (st.trans s.top.st) (inv.trans s.top.inv)
  | returns callee calls pc inv ok st =>
    rw [s.top.inv] at ok
    exact .returns (callee.trans s.callee) (calls.trans s.calls) (pc.trans s.top.pc) (inv.trans s.top.inv) ok st
  | called units h => exact .called units (called_afterSame _ _ _ s h)

section
variable {α : Type} {D : Ctx → Ctx → Prop} {n : Nat}

/-- A steady ending that does not complete. -/
theorem ends_error_of_same {c d : Ctx} {e : Ended} (h : c.Same d) : Ends D n c (.error e d) := by
  cases e with
  | raised e => exact ⟨h.frame, by rw [h.top.pc]; omega, h.calls⟩
  | faulted f => exact h.frame
  | unanswered => exact h.frame

/-- What happens after a steady part. -/
theorem ends_of_same (hD : AfterSame D) {c d : Ctx} (s : c.Same d)
    {r : EStateM.Result Ended Ctx Unit} (h : Ends D n d r) : Ends D n c r := by
  cases r with
  | ok v e => exact ⟨s.frame.trans h.1, hD _ _ _ s h.2⟩
  | error x e =>
    cases x with
    | raised x =>
      obtain ⟨frame, pc, calls⟩ := h
      exact ⟨s.frame.trans frame, by rwa [s.top.pc] at pc, calls.trans s.calls⟩
    | faulted f => exact s.frame.trans h
    | unanswered => exact s.frame.trans h

theorem ends_bind (hD : AfterSame D) {x : Handler α} {f : α → Handler Unit}
    (hx : Steady x) (hf : ∀ v c, Ends D n c (f v c)) (c : Ctx) : Ends D n c ((x >>= f) c) := by
  have h := hx c
  rw [handler_bind]
  cases hr : x c with
  | ok v d =>
    rw [hr] at h
    exact ends_of_same hD h (hf v d)
  | error e d =>
    rw [hr] at h
    exact ends_error_of_same h

theorem sound_bind {x : Handler α} {f : α → Handler Unit} (hx : Steady x) (hf : ∀ v, Sound n (f v)) :
    Sound n (x >>= f) := ends_bind (completed_afterSame n) hx hf

theorem calls_bind {x : Handler α} {f : α → Handler Unit} (hx : Steady x) (hf : ∀ v, Calls (f v)) :
    Calls (x >>= f) := ends_bind called_afterSame hx hf

end

theorem sound_ite {n : Nat} {q : Prop} [Decidable q] {x y : Handler Unit} (hx : Sound n x) (hy : Sound n y) :
    Sound n (if q then x else y) := by
  split
  · exact hx
  · exact hy

theorem calls_ite {q : Prop} [Decidable q] {x y : Handler Unit} (hx : Calls x) (hy : Calls y) :
    Calls (if q then x else y) := by
  split
  · exact hx
  · exact hy

theorem sound_raise {n : Nat} (x : Cause) : Sound n (raise x) := fun c => by
  rw [raise_run]
  exact ends_error_of_same (steady_raise (α := Unit) x c)

theorem calls_raise (x : Cause) : Calls (raise x) := fun c => by
  rw [raise_run]
  exact ends_error_of_same (steady_raise (α := Unit) x c)

theorem sound_faultWith {n : Nat} (f : EngineFault) : Sound n (faultWith f) := fun c => ends_error_of_same (.refl c)

theorem calls_faultWith (f : EngineFault) : Calls (faultWith f) := fun c => ends_error_of_same (.refl c)

/-- Advancing past the instruction, then a steady part (R175, R457). -/
theorem sound_advance_then {n : Nat} {x : Handler Unit} (hx : Steady x) : Sound n (advance n >>= fun _ => x) := fun c => by
  have h := hx { c with top := c.top.advance n }
  rw [handler_bind, advance_run]
  have frame : c.Frame (resultCtx (x { c with top := c.top.advance n })) :=
    ⟨h.top.method, h.top.slots, h.entries, h.clear⟩
  have pc := h.top.pc
  dsimp only
  cases hr : x { c with top := c.top.advance n } with
  | ok v d =>
    rw [hr] at h frame pc
    exact ⟨frame, .goesOn h.callee h.calls (.inl pc.le) h.top.st h.top.inv⟩
  | error e d =>
    rw [hr] at h frame pc
    cases e with
    | raised e => exact ⟨frame, pc.le, h.calls⟩
    | faulted f => exact frame
    | unanswered => exact frame

theorem sound_advance (n : Nat) : Sound n (advance n) := sound_advance_then (steady_pure ())

theorem sound_jump {n : Nat} (off : Int) : Sound n (jump off) := fun c => by
  rw [jump_run]
  split
  · rename_i h
    exact ⟨⟨rfl, rfl, rfl, id⟩, .goesOn rfl rfl (.inr (by dsimp only; omega)) rfl rfl⟩
  · exact ends_error_of_same (.refl c)

/-- The common end: a steady part, then the cursor advances. -/
theorem sound_then_advance {α : Type} {n : Nat} {x : Handler α} (hx : Steady x) : Sound n (x >>= fun _ => advance n) :=
  sound_bind hx fun _ => sound_advance n

end Sys2Proof.Machine
end

section
/-! How each handler of an instruction can end (spec/41_move_const.md to spec/46_invoke.md): one lemma per shared
operation, then one table over the instructions. -/

namespace Sys2Proof.Machine

/-! ### Moves and constants -/

theorem sound_moveI32 (dst src n : Nat) : Sound n (moveI32 dst src n) :=
  sound_bind (steady_readI32 _) fun _ => sound_then_advance (steady_writeI32 _ _)
theorem sound_moveI64 (dst src n : Nat) : Sound n (moveI64 dst src n) :=
  sound_bind (steady_readI64 _) fun _ => sound_then_advance (steady_writeI64 _ _)
theorem sound_moveRef (dst src n : Nat) : Sound n (moveRef dst src n) :=
  sound_bind (steady_readRef _) fun _ => sound_then_advance (steady_writeRef _ _)
theorem sound_moveResultI32 (dst : Nat) : Sound 1 (moveResultI32 dst) :=
  sound_bind steady_readRV fun _ => sound_then_advance (steady_writeI32 _ _)
theorem sound_moveResultI64 (dst : Nat) : Sound 1 (moveResultI64 dst) :=
  sound_bind steady_readRV fun _ => sound_then_advance (steady_writeI64 _ _)
theorem sound_moveResultRef (dst : Nat) : Sound 1 (moveResultRef dst) :=
  sound_bind steady_readRV fun _ => sound_then_advance (steady_writeRef _ _)

theorem sound_takeCaught (dst : Nat) : Sound 1 (takeCaught dst) :=
  sound_bind steady_getTop fun a => by
    split
    · exact sound_faultWith _
    · exact sound_bind (steady_writeRef _ _) fun _ => sound_then_advance steady_clearExc

theorem sound_loadI32 (dst n : Nat) (v : Word32) : Sound n (loadI32 dst n v) := sound_then_advance (steady_writeI32 _ _)
theorem sound_loadI64 (dst n : Nat) (v : Word64) : Sound n (loadI64 dst n v) := sound_then_advance (steady_writeI64 _ _)
theorem sound_loadString (dst n idx : Nat) : Sound n (loadString dst n idx) :=
  sound_bind (steady_query _ _ _) fun _ => sound_then_advance (steady_writeRef _ _)
theorem sound_loadClass (dst idx : Nat) : Sound 2 (loadClass dst idx) :=
  sound_bind (steady_classRef _) fun _ => sound_then_advance (steady_writeRef _ _)

/-! ### Integers -/

theorem sound_intUnary (dst src : Nat) (f : Word32 → Word32) : Sound 1 (intUnary dst src f) :=
  sound_bind (steady_readI32 _) fun _ => sound_then_advance (steady_writeI32 _ _)
theorem sound_longUnary (dst src : Nat) (f : Word64 → Word64) : Sound 1 (longUnary dst src f) :=
  sound_bind (steady_readI64 _) fun _ => sound_then_advance (steady_writeI64 _ _)
theorem sound_longCompare (dst l r : Nat) : Sound 2 (longCompare dst l r) :=
  sound_bind (steady_readI64 _) fun _ => sound_bind (steady_readI64 _) fun _ =>
    sound_then_advance (steady_writeI32 _ _)
theorem sound_intBinary (dst l r n : Nat) (f : Word32 → Word32 → Word32) : Sound n (intBinary dst l r n f) :=
  sound_bind (steady_readI32 _) fun _ => sound_bind (steady_readI32 _) fun _ =>
    sound_then_advance (steady_writeI32 _ _)
theorem sound_intDivide (dst l r n : Nat) (f : Word32 → Word32 → Word32) : Sound n (intDivide dst l r n f) :=
  sound_bind (steady_readI32 _) fun _ => sound_bind (steady_readI32 _) fun _ =>
    sound_ite (sound_raise _) (sound_then_advance (steady_writeI32 _ _))
theorem sound_intLiteral (dst src : Nat) (lit : Word32) (f : Word32 → Word32 → Word32) :
    Sound 2 (intLiteral dst src lit f) :=
  sound_bind (steady_readI32 _) fun _ => sound_then_advance (steady_writeI32 _ _)
theorem sound_intLiteralDivide (dst src : Nat) (lit : Word32) (f : Word32 → Word32 → Word32) :
    Sound 2 (intLiteralDivide dst src lit f) :=
  sound_bind (steady_readI32 _) fun _ => sound_ite (sound_raise _) (sound_then_advance (steady_writeI32 _ _))
theorem sound_longBinary (dst l r n : Nat) (f : Word64 → Word64 → Word64) : Sound n (longBinary dst l r n f) :=
  sound_bind (steady_readI64 _) fun _ => sound_bind (steady_readI64 _) fun _ =>
    sound_then_advance (steady_writeI64 _ _)
theorem sound_longDivide (dst l r n : Nat) (f : Word64 → Word64 → Word64) : Sound n (longDivide dst l r n f) :=
  sound_bind (steady_readI64 _) fun _ => sound_bind (steady_readI64 _) fun _ =>
    sound_ite (sound_raise _) (sound_then_advance (steady_writeI64 _ _))
theorem sound_longShift (dst l r n : Nat) (f : Word64 → Word32 → Word64) : Sound n (longShift dst l r n f) :=
  sound_bind (steady_readI64 _) fun _ => sound_bind (steady_readI32 _) fun _ =>
    sound_then_advance (steady_writeI64 _ _)

/-! ### Floating point -/

theorem sound_floatCompare (dst l r : Nat) (bias : Word32) : Sound 2 (floatCompare dst l r bias) :=
  sound_bind (steady_readI32 _) fun _ => sound_bind (steady_readI32 _) fun _ =>
    sound_then_advance (steady_writeI32 _ _)
theorem sound_doubleCompare (dst l r : Nat) (bias : Word32) : Sound 2 (doubleCompare dst l r bias) :=
  sound_bind (steady_readI64 _) fun _ => sound_bind (steady_readI64 _) fun _ =>
    sound_then_advance (steady_writeI32 _ _)
theorem sound_floatBinary (dst l r n : Nat) (f : FloatFormat → FloatValue → FloatValue → Option Nat) :
    Sound n (floatBinary dst l r n f) :=
  sound_bind (steady_readI32 _) fun _ => sound_bind (steady_readI32 _) fun _ =>
    sound_bind (steady_ask (quiet_produce32 _)) fun _ => sound_then_advance (steady_writeF32 _ _)
theorem sound_doubleBinary (dst l r n : Nat) (f : FloatFormat → FloatValue → FloatValue → Option Nat) :
    Sound n (doubleBinary dst l r n f) :=
  sound_bind (steady_readI64 _) fun _ => sound_bind (steady_readI64 _) fun _ =>
    sound_bind (steady_ask (quiet_produce64 _)) fun _ => sound_then_advance (steady_writeI64 _ _)

/-- A conversion between patterns of the two widths, in either direction (R364, R365, R370 to R377, R379, R380). -/
theorem sound_convert {α β : Type} {x : Handler α} {w : β → Handler Unit} {f : α → β} (hx : Steady x)
    (hw : ∀ v, Steady (w v)) : Sound 1 (x >>= fun a => w (f a) >>= fun _ => advance 1) :=
  sound_bind hx fun _ => sound_then_advance (hw _)

theorem sound_floatNegate (dst src : Nat) : Sound 1 (floatNegate dst src) :=
  sound_convert (steady_readI32 _) (steady_writeF32 _)
theorem sound_doubleNegate (dst src : Nat) : Sound 1 (doubleNegate dst src) :=
  sound_convert (steady_readI64 _) (steady_writeI64 _)
theorem sound_intToLongOp (dst src : Nat) : Sound 1 (intToLongOp dst src) :=
  sound_convert (steady_readI32 _) (steady_writeI64 _)
theorem sound_intToFloatOp (dst src : Nat) : Sound 1 (intToFloatOp dst src) :=
  sound_convert (steady_readI32 _) (steady_writeF32 _)
theorem sound_intToDoubleOp (dst src : Nat) : Sound 1 (intToDoubleOp dst src) :=
  sound_convert (steady_readI32 _) (steady_writeI64 _)
theorem sound_longToIntOp (dst src : Nat) : Sound 1 (longToIntOp dst src) :=
  sound_convert (steady_readI64 _) (steady_writeI32 _)
theorem sound_longToFloatOp (dst src : Nat) : Sound 1 (longToFloatOp dst src) :=
  sound_convert (steady_readI64 _) (steady_writeF32 _)
theorem sound_longToDoubleOp (dst src : Nat) : Sound 1 (longToDoubleOp dst src) :=
  sound_convert (steady_readI64 _) (steady_writeI64 _)
theorem sound_floatToIntOp (dst src : Nat) : Sound 1 (floatToIntOp dst src) :=
  sound_convert (steady_readI32 _) (steady_writeI32 _)
theorem sound_floatToLongOp (dst src : Nat) : Sound 1 (floatToLongOp dst src) :=
  sound_convert (steady_readI32 _) (steady_writeI64 _)
theorem sound_floatToDoubleOp (dst src : Nat) : Sound 1 (floatToDoubleOp dst src) :=
  sound_bind (steady_readI32 _) fun _ => sound_bind (steady_ask (quiet_produce64 _)) fun _ =>
    sound_then_advance (steady_writeI64 _ _)
theorem sound_doubleToIntOp (dst src : Nat) : Sound 1 (doubleToIntOp dst src) :=
  sound_convert (steady_readI64 _) (steady_writeI32 _)
theorem sound_doubleToLongOp (dst src : Nat) : Sound 1 (doubleToLongOp dst src) :=
  sound_convert (steady_readI64 _) (steady_writeI64 _)
theorem sound_doubleToFloatOp (dst src : Nat) : Sound 1 (doubleToFloatOp dst src) :=
  sound_bind (steady_readI64 _) fun _ => sound_bind (steady_ask (quiet_produce32 _)) fun _ =>
    sound_then_advance (steady_writeF32 _ _)

/-! ### Control flow -/

theorem sound_branchIf (k : Cond) (l r : Nat) (off : BitVec 16) : Sound 2 (branchIf k l r off) :=
  sound_bind (steady_readI32 _) fun _ => sound_bind (steady_readI32 _) fun _ =>
    sound_ite (sound_jump _) (sound_advance 2)
theorem sound_branchIfZero (k : Cond) (l : Nat) (off : BitVec 16) : Sound 2 (branchIfZero k l off) :=
  sound_bind (steady_readI32 _) fun _ => sound_ite (sound_jump _) (sound_advance 2)

theorem sound_packedSwitchOn (src : Nat) (off : Word32) : Sound 3 (packedSwitchOn src off) :=
  sound_bind (steady_readI32 _) fun _ => sound_bind steady_getTop fun _ =>
    sound_bind (steady_checkMagic _ _) fun _ => sound_bind (steady_readUnit _) fun _ =>
      sound_bind (steady_readUnit32 _) fun _ =>
        sound_ite (sound_bind (steady_readUnit32 _) fun _ => sound_jump _) (sound_advance 3)

theorem sound_sparseSwitchOn (src : Nat) (off : Word32) : Sound 3 (sparseSwitchOn src off) :=
  sound_bind (steady_readI32 _) fun v => sound_bind steady_getTop fun _ =>
    sound_bind (steady_checkMagic _ _) fun _ => sound_bind (steady_readUnit _) fun _ =>
      sound_bind (steady_checked _) fun keys => sound_ite
        (by
          cases keys.idxOf? v with
          | some j => exact sound_bind (steady_readUnit32 _) fun _ => sound_jump _
          | none => exact sound_advance 3)
        (sound_faultWith _)

theorem sound_throwRef (src : Nat) : Sound 1 (throwRef src) :=
  sound_bind (steady_readRef _) fun _ => sound_ite (sound_raise _) (sound_raise _)

theorem sound_returnMismatch {n : Nat} : Sound n returnMismatch := sound_bind steady_getTop fun _ => sound_faultWith _

/-- A return of a value whose code is the method's (R446). -/
theorem ends_finish {n : Nat} {c : Ctx} {v : ReturnValue}
    (h : c.top.inv = .idle → ({ c.top with st := .finished, ret := v } : Activation).statusOk = true) :
    Ends (Ctx.Completed n) n c (finish v c) := ⟨⟨rfl, rfl, rfl, id⟩, .returns rfl rfl rfl rfl h rfl⟩

theorem sound_finishVoid : Sound 1 finishVoid := fun c => by
  rw [finishVoid, handler_bind, getTop_run]
  dsimp only
  cases hr : c.top.method.shorty.ret with
  | none => exact ends_finish fun hi => by simp [Activation.statusOk, hi, hr]
  | some t => exact sound_returnMismatch c

theorem sound_finishI32 (src : Nat) : Sound 1 (finishI32 src) := sound_bind (steady_readI32 _) fun v c => by
  rw [handler_bind, getTop_run]
  dsimp only
  rcases hr : c.top.method.shorty.ret with _ | k | k | _
  · exact sound_returnMismatch c
  · exact ends_finish fun hi => by simp [Activation.statusOk, hi, hr, TypedValue.code]
  · exact sound_returnMismatch c
  · exact sound_returnMismatch c

theorem sound_finishI64 (src : Nat) : Sound 1 (finishI64 src) := sound_bind (steady_readI64 _) fun v c => by
  rw [handler_bind, getTop_run]
  dsimp only
  rcases hr : c.top.method.shorty.ret with _ | k | k | _
  · exact sound_returnMismatch c
  · exact sound_returnMismatch c
  · exact ends_finish fun hi => by simp [Activation.statusOk, hi, hr, TypedValue.code]
  · exact sound_returnMismatch c

theorem sound_finishRef (src : Nat) : Sound 1 (finishRef src) := sound_bind (steady_readRef _) fun v c => by
  rw [handler_bind, getTop_run]
  dsimp only
  rcases hr : c.top.method.shorty.ret with _ | k | k | _
  · exact sound_returnMismatch c
  · exact sound_returnMismatch c
  · exact sound_returnMismatch c
  · exact ends_finish fun hi => by simp [Activation.statusOk, hi, hr, TypedValue.code]

theorem sound_nullMonitor {n : Nat} (pc0 : Nat) : Sound n (nullMonitor pc0) :=
  sound_bind (x := get) (fun c => .refl c) fun c => by
    cases c.params.monitorNull with
    | fault => exact sound_faultWith _
    | npe => exact sound_raise _

theorem sound_acquireMonitor (src : Nat) : Sound 1 (acquireMonitor src) :=
  sound_bind (steady_readRef _) fun _ => sound_bind steady_getTop fun _ => sound_ite
    (sound_nullMonitor _)
    (sound_bind (steady_ask (monitorEnterOn_frame _).1) fun r => by
      cases r with
      | acquired => exact sound_advance 1
      | fails e => exact sound_raise _
      | unanswered => exact fun c => ends_error_of_same (.refl c))

theorem sound_releaseMonitor (src : Nat) : Sound 1 (releaseMonitor src) :=
  sound_bind (steady_readRef _) fun _ => sound_bind steady_getTop fun _ => sound_advance_then
    (steady_ite (steady_nullMonitor _) (steady_bind (steady_attempt _ _ _) fun _ => steady_orHost _))

/-! ### Objects, arrays and fields -/

theorem sound_lengthOf (dst src : Nat) : Sound 1 (lengthOf dst src) :=
  sound_bind (steady_readRef _) fun _ => sound_bind (steady_requireNonNull _ _) fun _ =>
    sound_bind (steady_query _ _ _) fun _ => sound_then_advance (steady_writeI32 _ _)
theorem sound_allocObject (dst idx : Nat) : Sound 2 (allocObject dst idx) :=
  sound_bind (steady_classRef _) fun _ => sound_bind (steady_attempt _ _ _) fun _ =>
    sound_bind (steady_orHost _) fun _ => sound_then_advance (steady_writeRef _ _)
theorem sound_allocArrayOf (dst src idx : Nat) : Sound 2 (allocArrayOf dst src idx) :=
  sound_bind (steady_readI32 _) fun _ => sound_bind (steady_classRef _) fun _ => sound_ite (sound_raise _)
    (sound_bind (steady_attempt _ _ _) fun _ => sound_bind (steady_orResolution _) fun _ =>
      sound_then_advance (steady_writeRef _ _))
theorem sound_castCheck (src idx : Nat) : Sound 2 (castCheck src idx) :=
  sound_bind (steady_readRef _) fun _ => sound_bind (steady_classRef _) fun _ =>
    sound_bind (steady_instanceOrNull _ _ _) fun _ => sound_ite (sound_advance 2)
      (sound_bind (steady_query _ _ _) fun _ => sound_raise _)
theorem sound_instanceTest (dst src idx : Nat) : Sound 2 (instanceTest dst src idx) :=
  sound_bind (steady_readRef _) fun _ => sound_bind (steady_classRef _) fun _ =>
    sound_bind (steady_instanceOrNull _ _ _) fun _ => sound_then_advance (steady_writeI32 _ _)

theorem sound_fillFromTable (src : Nat) (off : Word32) : Sound 3 (fillFromTable src off) :=
  sound_bind (steady_readRef _) fun _ => sound_bind (steady_requireNonNull _ _) fun _ =>
    sound_bind steady_getTop fun _ => sound_bind (steady_checkMagic _ _) fun _ =>
      sound_bind (steady_readUnit _) fun _ => sound_ite
        (sound_bind (steady_readUnit32 _) fun _ => sound_bind (steady_query _ _ _) fun _ =>
          sound_ite (sound_raise _)
            (sound_bind (steady_checked _) fun _ => sound_bind (steady_attempt _ _ _) fun _ =>
              sound_then_advance (steady_orHost _)))
        (sound_faultWith _)

theorem sound_filledArray (idx : Nat) (regs : List Nat) : Sound 3 (filledArray idx regs) :=
  sound_bind (steady_query _ _ _) fun _ => sound_bind (steady_readFilled _ _) fun _ =>
    sound_bind (steady_attempt _ _ _) fun _ => sound_bind (steady_orResolution _) fun _ =>
      sound_bind (steady_attempt _ _ _) fun _ => sound_bind (steady_orHost _) fun _ => fun _ =>
        ⟨⟨rfl, rfl, rfl, id⟩, .goesOn rfl rfl (.inl le_rfl) rfl rfl⟩

theorem sound_filledPacked (count : BitVec 4) (idx : Nat) (c d e f g : BitVec 4) :
    Sound 3 (filledPacked count idx c d e f g) :=
  sound_bind (steady_checkCount _) fun _ => sound_filledArray _ _

theorem sound_getElement32 (k : Code32) (dst arrReg idxReg : Nat) : Sound 2 (getElement32 k dst arrReg idxReg) :=
  sound_bind (steady_getElement _ _ _) fun _ => sound_then_advance (steady_writeI32 _ _)
theorem sound_getElement64 (dst arrReg idxReg : Nat) : Sound 2 (getElement64 dst arrReg idxReg) :=
  sound_bind (steady_getElement _ _ _) fun _ => sound_then_advance (steady_writeI64 _ _)
theorem sound_getElementRef (dst arrReg idxReg : Nat) : Sound 2 (getElementRef dst arrReg idxReg) :=
  sound_bind (steady_getElement _ _ _) fun _ => sound_then_advance (steady_writeRef _ _)
theorem sound_putElement32 (k : Code32) (src arrReg idxReg : Nat) : Sound 2 (putElement32 k src arrReg idxReg) :=
  sound_bind (steady_readI32 _) fun _ => sound_bind (steady_readRef _) fun _ => sound_bind (steady_readI32 _) fun _ =>
    sound_bind (steady_checkElement _ _) fun _ => sound_then_advance (steady_ask (send_frame _).1)
theorem sound_putElement64 (src arrReg idxReg : Nat) : Sound 2 (putElement64 src arrReg idxReg) :=
  sound_bind (steady_readI64 _) fun _ => sound_bind (steady_readRef _) fun _ => sound_bind (steady_readI32 _) fun _ =>
    sound_bind (steady_checkElement _ _) fun _ => sound_then_advance (steady_ask (send_frame _).1)
theorem sound_putElementRef (src arrReg idxReg : Nat) : Sound 2 (putElementRef src arrReg idxReg) :=
  sound_bind (steady_readRef _) fun _ => sound_bind (steady_readRef _) fun _ => sound_bind (steady_readI32 _) fun _ =>
    sound_bind (steady_checkElement _ _) fun _ => sound_bind (steady_attempt _ _ _) fun _ =>
      sound_then_advance (steady_orHost _)

theorem sound_getField (dst idx : Nat) (inst : Handle) : Sound 2 (getField dst idx inst) :=
  sound_bind (steady_attempt _ _ _) fun _ => sound_bind (steady_orResolution _) fun _ =>
    sound_then_advance (steady_writeField _ _)
theorem sound_putField (idx : Nat) (inst : Handle) (v : TypedValue) : Sound 2 (putField idx inst v) :=
  sound_bind (steady_attempt _ _ _) fun _ => sound_then_advance (steady_orResolution _)
theorem sound_getInstanceField (dst objReg idx : Nat) : Sound 2 (getInstanceField dst objReg idx) :=
  sound_bind (steady_readRef _) fun _ => sound_bind (steady_requireNonNull _ _) fun _ => sound_getField _ _ _
theorem sound_putInstanceField (t : TypeCode) (src objReg idx : Nat) : Sound 2 (putInstanceField t src objReg idx) :=
  sound_bind (steady_readTyped _ _) fun _ => sound_bind (steady_readRef _) fun _ =>
    sound_bind (steady_requireNonNull _ _) fun _ => sound_putField _ _ _
theorem sound_putStaticField (t : TypeCode) (src idx : Nat) : Sound 2 (putStaticField t src idx) :=
  sound_bind (steady_readTyped _ _) fun _ => sound_putField _ _ _

theorem sound_trap (op : BitVec 8) : Sound 1 (trap op) := sound_bind steady_getTop fun _ => sound_faultWith _

/-! ### New activations -/

theorem checked_map_ok {α β : Type} {x : Checked α} {f : α → β} {y : β} (h : x.map f = .ok y) :
    ∃ v, x = .ok v ∧ f v = y := by
  cases x with
  | ok v => exact ⟨v, rfl, Except.ok.inj h⟩
  | error e => cases h

theorem alike_of_putArg {a b : Activation} {p q : Nat} {v : TypedValue} (h : a.putArg p v = .ok (b, q)) : a.Alike b := by
  unfold Activation.putArg at h
  split at h <;> obtain ⟨x, hx, he⟩ := checked_map_ok h <;> cases he
  · exact alike_of_guard hx (a.alike_putSlot _ _)
  · exact alike_of_guard hx (a.alike_putSlot _ _)
  · exact alike_of_guard hx (a.alike_putI64 _ _)
  · exact alike_of_guard hx (a.alike_putSlot _ _)

theorem alike_of_putArgs (args : List TypedValue) :
    ∀ {a b : Activation} {p : Nat}, a.putArgs p args = .ok b → a.Alike b := by
  induction args with
  | nil =>
    intro a b p h
    cases h
    exact .refl a
  | cons v vs ih =>
    intro a b p h
    rw [Activation.putArgs] at h
    cases hv : a.putArg p v with
    | error f => rw [hv] at h; cases h
    | ok x => rw [hv] at h; exact (alike_of_putArg hv).trans (ih h)

/-- The method of an answer is within the ranges of R7, its stream canonical. -/
theorem toMethod_ok {m : MethodInfo} (sh : Shorty) (h1 : 1 ≤ m.nreg) (h2 : m.nreg ≤ regMax) (h3 : m.nins ≤ m.nreg)
    (h4 : m.units.length ≤ codeMax) : (m.toMethod sh).ok = true := by
  simp [Method.ok, MethodInfo.toMethod, Memory.wf_ofUnits, Memory.below_ofUnits, *]

/-- A started activation is well-formed and running (R562, R701). -/
theorem start_ok {m : Method} {args : List TypedValue} {b : Activation} (hm : m.ok = true)
    (h : Activation.start m args = .ok b) : b.ok = true ∧ b.st = .run := by
  have k := alike_of_putArgs args h
  have hst : b.st = .run := k.st
  have hinv : b.inv = .idle := k.inv
  refine ⟨?_, hst⟩
  simp [Activation.ok, Activation.statusOk, k.method, k.slots, k.pc, hm, hst, hinv]

/-- A chain that starts: its first activation is well-formed, and the stack was not at its limit (R703). -/
theorem startChain_ok {limit depth : Nat} {call : EntryCall} {p : Ports} {b : Activation}
    (h : (startChain limit depth call p).1 = .ok b) : b.ok = true ∧ b.st = .run ∧ depth < limit := by
  obtain ⟨h1, h2, h3, h4⟩ := methodInfo_inRange call.method p
  simp only [startChain, port_bind, port_pure] at h
  split at h
  · cases h
  · split at h
    · cases h
    · obtain ⟨ok, running⟩ := start_ok (toMethod_ok _ h1 h2 h3 h4) h
      exact ⟨ok, running, by omega⟩

/-! ### Invokes -/

theorem calls_awaitCall (call : StagedCall) : Calls (awaitCall call) :=
  calls_bind (steady_ask callAnswer_quiet) fun r => by
    cases r with
    | returns bits =>
      intro c
      exact ⟨⟨by simp, by simp, rfl, id⟩, .resumes rfl rfl (by simp) rfl rfl⟩
    | fails e => exact calls_raise _
    | reenters entry =>
      intro c
      have quiet := steady_ask (quiet_startChain c.params.maxDepth c.depth entry) c
      dsimp only
      rw [handler_bind, handler_get]
      dsimp only
      rw [handler_bind, ask_run]
      rw [ask_run] at quiet
      dsimp only [resultCtx] at quiet ⊢
      cases hb : (startChain c.params.maxDepth c.depth entry c.ports).1 with
      | error f => exact ends_error_of_same quiet
      | ok b =>
        obtain ⟨ok, running, depth⟩ := startChain_ok hb
        exact ⟨⟨rfl, rfl, quiet.entries, quiet.clear⟩,
          .reenters b call rfl (congrArg (call :: ·) quiet.calls) rfl rfl rfl ok running depth⟩

theorem calls_callNested (pc0 need : Nat) (call : StagedCall) (sh : Shorty) : Calls (callNested pc0 need call sh) := by
  intro c
  have same := steady_ask (methodInfo_frame call.target).1 c
  obtain ⟨h1, h2, h3, h4⟩ := methodInfo_inRange call.target c.ports
  rw [callNested, handler_bind, ask_run] at *
  dsimp only [resultCtx] at *
  refine ends_of_same called_afterSame same ?_
  rw [handler_bind, handler_get]
  dsimp only
  split
  · exact calls_faultWith _ _
  · split
    · exact calls_faultWith _ _
    · cases hb : Activation.start (((methodInfo call.target) c.ports).1.toMethod sh) call.args with
      | error f => exact calls_faultWith f _
      | ok b =>
        obtain ⟨ok, running⟩ := start_ok (toMethod_ok sh h1 h2 h3 h4) hb
        exact ⟨⟨rfl, rfl, rfl, id⟩, .waits b call rfl rfl rfl rfl rfl ok running (by dsimp only; omega)⟩

/-- What a call comes to does not rest on ST and INV as the invoke has set them. -/
theorem ends_of_restaged {c : Ctx} {st : Status} {inv : Inv} {r : EStateM.Result Ended Ctx Unit}
    (h : Ends Ctx.Called 3 { c with top := { c.top with st := st, inv := inv } } r) : Ends Ctx.Called 3 c r := by
  cases r with
  | ok v d =>
    obtain ⟨frame, called⟩ := h
    refine ⟨⟨frame.method, frame.slots, frame.entries, frame.clear⟩, ?_⟩
    cases called with
    | resumes callee calls pc st inv => exact .resumes callee calls pc st inv
    | waits b call callee calls pc st inv ok running depth =>
      exact .waits b call callee calls pc st inv ok running depth
    | reenters b call callee calls pc st inv ok running depth =>
      exact .reenters b call callee calls pc st inv ok running depth
  | error e d =>
    cases e with
    | raised e =>
      obtain ⟨frame, pc, calls⟩ := h
      exact ⟨⟨frame.method, frame.slots, frame.entries, frame.clear⟩, pc, calls⟩
    | faulted f => exact ⟨h.method, h.slots, h.entries, h.clear⟩
    | unanswered => exact ⟨h.method, h.slots, h.entries, h.clear⟩

theorem calls_callHost (call : StagedCall) (recv : Option Handle) (sh : Shorty) : Calls (callHost call recv sh) :=
  calls_bind (steady_ask (quiet_issue _)) fun _ _ => ends_of_restaged (calls_awaitCall call _)

theorem calls_invoke (kind : InvokeKind) (form : ArgForm) (idx : Nat) (regs : List Nat) :
    Calls (invoke kind form idx regs) := by
  intro c
  refine ends_of_restaged (st := c.top.st) (inv := .decodingArgs kind form) ?_
  rw [invoke, handler_bind, getTop_run]
  dsimp only
  rw [handler_bind, setTop_run]
  refine calls_bind (steady_attempt _ _ _) (fun _ => ?_) _
  refine calls_bind (steady_orResolution _) fun _ => ?_
  refine calls_bind (steady_query _ _ _) fun _ => ?_
  refine calls_ite (calls_faultWith _) ?_
  refine calls_bind (steady_readReceiver _ _) fun _ => ?_
  refine calls_bind (steady_chooseTarget _ _ _) fun _ => ?_
  refine calls_bind (steady_checked _) fun _ => ?_
  refine calls_bind (steady_query _ _ _) fun _ => ?_
  exact calls_ite (calls_callNested _ _ _ _) (calls_callHost _ _ _)

/-- A call is a way to complete an instruction of three units. -/
theorem sound_of_calls {h : Handler Unit} (hc : Calls h) : Sound 3 h := fun c => by
  have e := hc c
  cases hr : h c with
  | ok v d =>
    rw [hr] at e
    exact ⟨e.1, .called le_rfl e.2⟩
  | error x d =>
    rw [hr] at e
    cases x <;> exact e

theorem sound_invoke (kind : InvokeKind) (form : ArgForm) (idx : Nat) (regs : List Nat) :
    Sound 3 (invoke kind form idx regs) := sound_of_calls (calls_invoke kind form idx regs)

theorem sound_invokePacked (kind : InvokeKind) (count : BitVec 4) (idx : Nat) (c d e f g : BitVec 4) :
    Sound 3 (invokePacked kind count idx c d e f g) := sound_bind (steady_checkCount _) fun _ => sound_invoke _ _ _ _

theorem calls_resumeCall (call : StagedCall) (ended : Reply Unit) : Calls (resumeCall call ended) := by
  cases ended with
  | ok v => exact calls_awaitCall call
  | fails e => exact calls_bind (steady_ask quiet_pickUp) fun _ => calls_raise _

end Sys2Proof.Machine
end

section
/-! The table over the instructions: the handler each runs, and that it ends as a handler of as many units as the
instruction has (spec/40_dispatch.md R172, R174, R175). -/

namespace Sys2Proof.Machine

/-- Every instruction runs a handler on the top activation, and the handler is sound for the instruction's length. -/
theorem exec_runs_sound (i : Instr) : ∃ h, (∀ s, exec i s = runTop h s) ∧ Sound (encode i).length h := by
  cases i with
  | nop => exact ⟨_, fun _ => rfl, sound_advance _⟩
  | move | moveFrom16 | move16 => exact ⟨_, fun _ => rfl, sound_moveI32 _ _ _⟩
  | moveWide | moveWideFrom16 | moveWide16 => exact ⟨_, fun _ => rfl, sound_moveI64 _ _ _⟩
  | moveObject | moveObjectFrom16 | moveObject16 => exact ⟨_, fun _ => rfl, sound_moveRef _ _ _⟩
  | moveResult => exact ⟨_, fun _ => rfl, sound_moveResultI32 _⟩
  | moveResultWide => exact ⟨_, fun _ => rfl, sound_moveResultI64 _⟩
  | moveResultObject => exact ⟨_, fun _ => rfl, sound_moveResultRef _⟩
  | moveException => exact ⟨_, fun _ => rfl, sound_takeCaught _⟩
  | returnVoid => exact ⟨_, fun _ => rfl, sound_finishVoid⟩
  | returnVal => exact ⟨_, fun _ => rfl, sound_finishI32 _⟩
  | returnWide => exact ⟨_, fun _ => rfl, sound_finishI64 _⟩
  | returnObject => exact ⟨_, fun _ => rfl, sound_finishRef _⟩
  | const4 | const16 | const32 | constHigh16 => exact ⟨_, fun _ => rfl, sound_loadI32 _ _ _⟩
  | constWide16 | constWide32 | constWide | constWideHigh16 => exact ⟨_, fun _ => rfl, sound_loadI64 _ _ _⟩
  | constString | constStringJumbo => exact ⟨_, fun _ => rfl, sound_loadString _ _ _⟩
  | constClass => exact ⟨_, fun _ => rfl, sound_loadClass _ _⟩
  | monitorEnter => exact ⟨_, fun _ => rfl, sound_acquireMonitor _⟩
  | monitorExit => exact ⟨_, fun _ => rfl, sound_releaseMonitor _⟩
  | checkCast => exact ⟨_, fun _ => rfl, sound_castCheck _ _⟩
  | instanceOf => exact ⟨_, fun _ => rfl, sound_instanceTest _ _ _⟩
  | arrayLength => exact ⟨_, fun _ => rfl, sound_lengthOf _ _⟩
  | newInstance => exact ⟨_, fun _ => rfl, sound_allocObject _ _⟩
  | newArray => exact ⟨_, fun _ => rfl, sound_allocArrayOf _ _ _⟩
  | filledNewArray => exact ⟨_, fun _ => rfl, sound_filledPacked _ _ _ _ _ _ _⟩
  | filledNewArrayRange => exact ⟨_, fun _ => rfl, sound_filledArray _ _⟩
  | fillArrayData => exact ⟨_, fun _ => rfl, sound_fillFromTable _ _⟩
  | throwObj => exact ⟨_, fun _ => rfl, sound_throwRef _⟩
  | goto | goto16 | goto32 => exact ⟨_, fun _ => rfl, sound_jump _⟩
  | packedSwitch => exact ⟨_, fun _ => rfl, sound_packedSwitchOn _ _⟩
  | sparseSwitch => exact ⟨_, fun _ => rfl, sound_sparseSwitchOn _ _⟩
  | cmplFloat | cmpgFloat => exact ⟨_, fun _ => rfl, sound_floatCompare _ _ _ _⟩
  | cmplDouble | cmpgDouble => exact ⟨_, fun _ => rfl, sound_doubleCompare _ _ _ _⟩
  | cmpLong => exact ⟨_, fun _ => rfl, sound_longCompare _ _ _⟩
  | ifEq | ifNe | ifLt | ifGe | ifGt | ifLe => exact ⟨_, fun _ => rfl, sound_branchIf _ _ _ _⟩
  | ifEqz | ifNez | ifLtz | ifGez | ifGtz | ifLez => exact ⟨_, fun _ => rfl, sound_branchIfZero _ _ _⟩
  | unused3e | unused3f | unused40 | unused41 | unused42 | unused43 | unused73 | unused79 | unused7a | unusedE3
    | unusedE4 | unusedE5 | unusedE6 | unusedE7 | unusedE8 | unusedE9 | unusedEa | unusedEb | unusedEc
    | unusedEd | unusedEe | unusedEf | unusedF0 | unusedF1 | unusedF2 | unusedF3 | unusedF4 | unusedF5
    | unusedF6 | unusedF7 | unusedF8 | unusedF9 | unusedFa | unusedFb | unusedFc | unusedFd | unusedFe
    | unusedFf => exact ⟨_, fun _ => rfl, sound_trap _⟩
  | aget | agetBoolean | agetByte | agetChar | agetShort => exact ⟨_, fun _ => rfl, sound_getElement32 _ _ _ _⟩
  | agetWide => exact ⟨_, fun _ => rfl, sound_getElement64 _ _ _⟩
  | agetObject => exact ⟨_, fun _ => rfl, sound_getElementRef _ _ _⟩
  | aput | aputBoolean | aputByte | aputChar | aputShort => exact ⟨_, fun _ => rfl, sound_putElement32 _ _ _ _⟩
  | aputWide => exact ⟨_, fun _ => rfl, sound_putElement64 _ _ _⟩
  | aputObject => exact ⟨_, fun _ => rfl, sound_putElementRef _ _ _⟩
  | iget | igetWide | igetObject | igetBoolean | igetByte | igetChar | igetShort =>
    exact ⟨_, fun _ => rfl, sound_getInstanceField _ _ _⟩
  | iput | iputWide | iputObject | iputBoolean | iputByte | iputChar | iputShort =>
    exact ⟨_, fun _ => rfl, sound_putInstanceField _ _ _ _⟩
  | sget | sgetWide | sgetObject | sgetBoolean | sgetByte | sgetChar | sgetShort =>
    exact ⟨_, fun _ => rfl, sound_getField _ _ _⟩
  | sput | sputWide | sputObject | sputBoolean | sputByte | sputChar | sputShort =>
    exact ⟨_, fun _ => rfl, sound_putStaticField _ _ _⟩
  | invokeVirtual | invokeSuper | invokeDirect | invokeStatic | invokeInterface =>
    exact ⟨_, fun _ => rfl, sound_invokePacked _ _ _ _ _ _ _ _⟩
  | invokeVirtualRange | invokeSuperRange | invokeDirectRange | invokeStaticRange | invokeInterfaceRange =>
    exact ⟨_, fun _ => rfl, sound_invoke _ _ _ _⟩
  | negInt | notInt | intToByte | intToChar | intToShort => exact ⟨_, fun _ => rfl, sound_intUnary _ _ _⟩
  | negLong | notLong => exact ⟨_, fun _ => rfl, sound_longUnary _ _ _⟩
  | negFloat => exact ⟨_, fun _ => rfl, sound_floatNegate _ _⟩
  | negDouble => exact ⟨_, fun _ => rfl, sound_doubleNegate _ _⟩
  | intToLong => exact ⟨_, fun _ => rfl, sound_intToLongOp _ _⟩
  | intToFloat => exact ⟨_, fun _ => rfl, sound_intToFloatOp _ _⟩
  | intToDouble => exact ⟨_, fun _ => rfl, sound_intToDoubleOp _ _⟩
  | longToInt => exact ⟨_, fun _ => rfl, sound_longToIntOp _ _⟩
  | longToFloat => exact ⟨_, fun _ => rfl, sound_longToFloatOp _ _⟩
  | longToDouble => exact ⟨_, fun _ => rfl, sound_longToDoubleOp _ _⟩
  | floatToInt => exact ⟨_, fun _ => rfl, sound_floatToIntOp _ _⟩
  | floatToLong => exact ⟨_, fun _ => rfl, sound_floatToLongOp _ _⟩
  | floatToDouble => exact ⟨_, fun _ => rfl, sound_floatToDoubleOp _ _⟩
  | doubleToInt => exact ⟨_, fun _ => rfl, sound_doubleToIntOp _ _⟩
  | doubleToLong => exact ⟨_, fun _ => rfl, sound_doubleToLongOp _ _⟩
  | doubleToFloat => exact ⟨_, fun _ => rfl, sound_doubleToFloatOp _ _⟩
  | addInt | subInt | mulInt | andInt | orInt | xorInt | shlInt | shrInt | ushrInt | addInt2addr | subInt2addr
    | mulInt2addr | andInt2addr | orInt2addr | xorInt2addr | shlInt2addr | shrInt2addr | ushrInt2addr =>
    exact ⟨_, fun _ => rfl, sound_intBinary _ _ _ _ _⟩
  | divInt | remInt | divInt2addr | remInt2addr => exact ⟨_, fun _ => rfl, sound_intDivide _ _ _ _ _⟩
  | addLong | subLong | mulLong | andLong | orLong | xorLong | addLong2addr | subLong2addr | mulLong2addr
    | andLong2addr | orLong2addr | xorLong2addr => exact ⟨_, fun _ => rfl, sound_longBinary _ _ _ _ _⟩
  | divLong | remLong | divLong2addr | remLong2addr => exact ⟨_, fun _ => rfl, sound_longDivide _ _ _ _ _⟩
  | shlLong | shrLong | ushrLong | shlLong2addr | shrLong2addr | ushrLong2addr =>
    exact ⟨_, fun _ => rfl, sound_longShift _ _ _ _ _⟩
  | addFloat | subFloat | mulFloat | divFloat | remFloat | addFloat2addr | subFloat2addr | mulFloat2addr
    | divFloat2addr | remFloat2addr => exact ⟨_, fun _ => rfl, sound_floatBinary _ _ _ _ _⟩
  | addDouble | subDouble | mulDouble | divDouble | remDouble | addDouble2addr | subDouble2addr | mulDouble2addr
    | divDouble2addr | remDouble2addr => exact ⟨_, fun _ => rfl, sound_doubleBinary _ _ _ _ _⟩
  | addIntLit16 | rsubInt | mulIntLit16 | andIntLit16 | orIntLit16 | xorIntLit16 | addIntLit8 | rsubIntLit8
    | mulIntLit8 | andIntLit8 | orIntLit8 | xorIntLit8 | shlIntLit8 | shrIntLit8 | ushrIntLit8 =>
    exact ⟨_, fun _ => rfl, sound_intLiteral _ _ _ _⟩
  | divIntLit16 | remIntLit16 | divIntLit8 | remIntLit8 => exact ⟨_, fun _ => rfl, sound_intLiteralDivide _ _ _ _⟩

end Sys2Proof.Machine

namespace Sys2Proof

/-! ### The length of a fetched instruction -/

theorem Shape.len_pos (sh : Shape) : 0 < sh.len := by cases sh <;> exact Nat.succ_pos _

/-- What the units of a format make has an encoding as long as the format says (R124). -/
def Shape.Measured (sh : Shape) : Prop := ∀ u0 u1 u2 u3 u4, (encode (sh.build u0 u1 u2 u3 u4)).length = sh.len

theorem opcodeTable_measured : ∀ sh ∈ opcodeTable, sh.Measured := by
  have entries : List.Forall Shape.Measured opcodeTable := by
    repeat' constructor
    all_goals exact fun _ _ _ _ _ => rfl
  exact List.forall_iff_forall_mem.1 entries

theorem shapeOf_measured (op : BitVec 8) : (shapeOf op).Measured := by
  unfold shapeOf
  rw [List.getD_eq_getElem?_getD]
  cases h : opcodeTable[op.toNat]? with
  | none => exact fun _ _ _ _ _ => rfl
  | some sh => exact opcodeTable_measured sh (List.mem_of_getElem? h)

/-- An instruction has as many units as the opcode table says of its first (R171 to R173). -/
theorem decode_length {u : CodeUnit} {us : List CodeUnit} {i : Instr} (h : decode (u :: us) = .ok i) :
    (encode i).length = (shapeOf (lowByte u)).len := by
  unfold decode at h
  split at h
  · cases h
  · rename_i heq
    obtain ⟨rfl, rfl⟩ := List.cons.inj heq
    dsimp only at h
    split at h
    · cases h
    · cases h
      exact shapeOf_measured _ _ _ _ _ _

end Sys2Proof

namespace Sys2Proof.Machine

/-- A code unit that is read lies inside the stream (R82). -/
theorem unit_ok_lt {m : Method} {k : Nat} {u : CodeUnit} (h : m.unit k = .ok u) : k < m.len := by
  unfold Method.unit at h
  split at h
  · omega
  · cases h

/-- A unit fetched with others is the first of them, and all of them lie inside the stream. -/
theorem unitsFrom_ok {m : Method} : ∀ {n k : Nat} {us : List CodeUnit}, m.unitsFrom k (n + 1) = .ok us →
    k + (n + 1) ≤ m.len ∧ ∃ u vs, m.unit k = .ok u ∧ us = u :: vs := by
  intro n
  induction n with
  | zero =>
    intro k us h
    rw [Method.unitsFrom] at h
    cases hu : m.unit k with
    | error f => rw [hu] at h; cases h
    | ok u =>
      rw [hu] at h
      cases h
      exact ⟨unit_ok_lt hu, u, [], rfl, rfl⟩
  | succ n ih =>
    intro k us h
    rw [Method.unitsFrom] at h
    cases hu : m.unit k with
    | error f => rw [hu] at h; cases h
    | ok u =>
      cases hv : m.unitsFrom (k + 1) (n + 1) with
      | error f => rw [hu, hv] at h; cases h
      | ok vs =>
        rw [hu, hv] at h
        cases h
        have := (ih hv).1
        exact ⟨by omega, u, vs, rfl, rfl⟩

/-- A fetched instruction lies inside the stream (R125, R171, R173). -/
theorem fetch_inside {m : Method} {pc : Nat} {i : Instr} (h : m.fetch pc = .ok i) : pc + (encode i).length ≤ m.len := by
  unfold Method.fetch at h
  cases hu : m.unit pc with
  | error f => rw [hu] at h; cases h
  | ok u =>
    rw [hu] at h
    dsimp only at h
    cases hs : m.unitsFrom pc (shapeOf (lowByte u)).len with
    | error f => rw [hs] at h; cases h
    | ok us =>
      rw [hs] at h
      dsimp only at h
      obtain ⟨n, hn⟩ : ∃ n, (shapeOf (lowByte u)).len = n + 1 := 
        ⟨_, (Nat.succ_pred_eq_of_pos (Shape.len_pos _)).symm⟩
      rw [hn] at hs
      obtain ⟨inside, v, vs, hv, rfl⟩ := unitsFrom_ok hs
      obtain rfl : v = u := Except.ok.inj (hv.symm.trans hu)
      cases hd : decode (v :: vs) with
      | error e => rw [hd] at h; cases h
      | ok j =>
        rw [hd] at h
        cases h
        rw [decode_length hd, hn]
        exact inside

end Sys2Proof.Machine
end

section
/-! The invariant of the engine (spec/10_state.md, spec/40_dispatch.md R170): what it says of an activation and of a state,
what one step can be, and that each keeps it. -/

namespace Sys2Proof.Machine

/-! ### Well-formed activations -/

theorem Activation.ok_iff {a : Activation} : a.ok = true ↔
    a.regs.length = a.method.nreg ∧ a.pc ≤ a.method.len ∧ a.method.ok = true ∧ a.statusOk = true := by
  simp [Activation.ok, and_assoc]

theorem statusOk_run {a : Activation} (st : a.st = .run) (inv : a.inv = .idle) : a.statusOk = true := by
  simp [Activation.statusOk, st, inv]

/-- INV is Idle in every status but CALLING (R570). -/
theorem idle_of_not_calling {a : Activation} (h : a.statusOk = true) (st : a.st ≠ .calling) : a.inv = .idle := by
  unfold Activation.statusOk at h
  split at h <;> simp_all

/-- A waiting activation is CALLING, its invoke's three units below L. -/
theorem awaiting_of_statusOk {a : Activation} (h : a.statusOk = true) (w : a.awaitsCallee = true) :
    a.st = .calling ∧ a.pc + 3 ≤ a.method.len := by
  unfold Activation.awaitsCallee at w
  split at w
  · rename_i call hinv
    unfold Activation.statusOk at h
    split at h <;> simp_all
  · cases w

/-- An activation with the method and slots of a well-formed one, its cursor in [0, L]. -/
theorem Activation.ok_of_frame {a b : Activation} (ok : a.ok = true) (method : b.method = a.method)
    (slots : b.regs.length = a.regs.length) (pc : b.pc ≤ a.method.len) (status : b.statusOk = true) : b.ok = true := by
  obtain ⟨hslots, -, hmethod, -⟩ := Activation.ok_iff.1 ok
  exact Activation.ok_iff.2 ⟨by rw [slots, method, hslots], by rwa [method], by rwa [method], status⟩

/-- A well-formed activation that takes an exception (R602). -/
theorem takeException_ok {a : Activation} {pc : Nat} (e : Handle) (ok : a.ok = true) (h : pc ≤ a.method.len) :
    (Activation.takeException { a with pc := pc } e).ok = true := Activation.ok_of_frame ok rfl rfl h rfl

/-- A waiting activation that takes its callee's result goes three units on (R566). -/
theorem takeResult_ok {a : Activation} (r : ReturnValue) (ok : a.ok = true) (w : a.awaitsCallee = true) :
    (a.takeResult r).ok = true := by
  obtain ⟨-, -, -, status⟩ := Activation.ok_iff.1 ok
  exact Activation.ok_of_frame ok (a.takeResult_method r) (by rw [a.takeResult_regs r])
    (awaiting_of_statusOk status w).2 (statusOk_run (a.takeResult_st r) (a.takeResult_inv r))

/-! ### The invariant -/

/-- The depth of the stack is within MAX_DEPTH, which is at least 1 (R7, R562). -/
structure State.Limited (s : State) : Prop where
  positive : 1 ≤ s.params.maxDepth
  depth : s.stack.length ≤ s.params.maxDepth

/-- What the invariant says of an engine no fault has stopped. -/
structure State.Healthy (s : State) : Prop where
  limited : s.Limited
  stack : stackOk s.ports.calls s.stack = true
  clear : s.stack = [] ∨ s.ports.hostExc = none

theorem State.Healthy.inv {s : State} (h : s.Healthy) : s.inv = true := by
  obtain ⟨⟨positive, depth⟩, stack, clear⟩ := h
  simp [State.inv, positive, depth, stack, clear]

/-- Of a stopped engine only the depth is asked (R611). -/
theorem State.Limited.inv_of_fault {s : State} {f : EngineFault} (h : s.Limited) (hf : s.fault = some f) :
    s.inv = true := by
  simp [State.inv, h.positive, h.depth, hf]

theorem State.healthy_of_inv {s : State} (h : s.inv = true) (hf : s.fault = none) : s.Healthy := by
  simp only [State.inv, hf, Option.isSome_none, Bool.false_or, Bool.and_eq_true, decide_eq_true_eq, Bool.or_eq_true,
    List.isEmpty_iff, Option.isNone_iff_eq_none] at h
  exact ⟨⟨h.1.1, h.1.2⟩, h.2.1, h.2.2⟩

theorem stackOk_cons {calls : List StagedCall} {a : Activation} {rest : List Activation} :
    stackOk calls (a :: rest) = true ↔ a.ok = true ∧ a.st ≠ .calling ∧ belowOk calls rest = true := by
  simp [stackOk, and_assoc]

theorem belowOk_nil {calls : List StagedCall} : belowOk calls [] = true ↔ calls = [] := by simp [belowOk]

theorem belowOk_awaiting {calls : List StagedCall} {b : Activation} {rest : List Activation} (w : b.awaitsCallee = true) :
    belowOk calls (b :: rest) = true ↔ b.ok = true ∧ belowOk calls rest = true := by
  simp [belowOk, w]

/-- An activation below the top that does not wait has the newest of the outstanding host calls (R705). -/
theorem belowOk_inHostCall {calls : List StagedCall} {b : Activation} {rest : List Activation}
    (w : b.awaitsCallee = false) : belowOk calls (b :: rest) = true ↔
      b.ok = true ∧ b.st = .run ∧ b.pc + 3 ≤ b.method.len ∧
        ∃ call later, calls = call :: later ∧ belowOk later rest = true := by
  cases calls <;> simp [belowOk, w, Activation.inHostCall, and_assoc]

theorem awaitsCallee_of_inv {b : Activation} {call : StagedCall} (h : b.inv = .callInterpreted call) :
    b.awaitsCallee = true := by simp [Activation.awaitsCallee, h]

theorem awaitsCallee_of_idle {b : Activation} (h : b.inv = .idle) : b.awaitsCallee = false := by
  simp [Activation.awaitsCallee, h]

/-! ### What a handler leaves -/

theorem Ends.frame {D : Ctx → Ctx → Prop} {n : Nat} {c : Ctx} {r : EStateM.Result Ended Ctx Unit} (h : Ends D n c r) :
    c.Frame (resultCtx r) := by
  cases r with
  | ok v d => exact h.1
  | error x d =>
    cases x with
    | raised e => exact h.1
    | faulted f => exact h
    | unanswered => exact h

section
variable {s : State} {a : Activation} {rest : List Activation} {c : Ctx}

/-- A handler that pushed nothing leaves its activation above the same others. -/
theorem healthy_of_top (limited : s.Limited) (hs : s.stack = a :: rest) (below : belowOk s.ports.calls rest = true)
    (clear : c.ports.hostExc = none) (callee : c.callee = none) (calls : c.ports.calls = s.ports.calls)
    (ok : c.top.ok = true) (st : c.top.st ≠ .calling) :
    State.Healthy { s with stack := c.stackOver rest, ports := c.ports } := by
  obtain ⟨positive, depth⟩ := limited
  rw [hs] at depth
  have stack : c.stackOver rest = c.top :: rest := by rw [Ctx.stackOver, callee]
  rw [stack]
  exact ⟨⟨positive, depth⟩, stackOk_cons.2 ⟨ok, st, calls ▸ below⟩, .inr clear⟩

/-- A handler that pushed a running callee, within MAX_DEPTH. -/
theorem healthy_of_callee {b : Activation} (limited : s.Limited) (clear : c.ports.hostExc = none)
    (callee : c.callee = some b) (ok : b.ok = true) (running : b.st = .run) (depth : rest.length + 1 < s.params.maxDepth)
    (below : belowOk c.ports.calls (c.top :: rest) = true) :
    State.Healthy { s with stack := c.stackOver rest, ports := c.ports } := by
  have stack : c.stackOver rest = b :: c.top :: rest := by rw [Ctx.stackOver, callee]
  rw [stack]
  exact ⟨⟨limited.positive, depth⟩, stackOk_cons.2 ⟨ok, by simp [running], below⟩, .inr clear⟩

/-- A handler that completes leaves a stack that meets the invariant. -/
theorem completed_healthy {n : Nat} (hs : s.stack = a :: rest) (limited : s.Limited) (ok : a.ok = true)
    (running : a.st = .run) (fits : a.pc + n ≤ a.method.len) (below : belowOk s.ports.calls rest = true)
    (clear : c.ports.hostExc = none) (frame : (Ctx.enter s a rest).Frame c) (h : (Ctx.enter s a rest).Completed n c) :
    State.Healthy { s with stack := c.stackOver rest, ports := c.ports } := by
  obtain ⟨-, -, -, status⟩ := Activation.ok_iff.1 ok
  have idle : a.inv = .idle := idle_of_not_calling status (by simp [running])
  have topOk : c.top.pc ≤ a.method.len → c.top.statusOk = true → c.top.ok = true :=
    Activation.ok_of_frame ok frame.method frame.slots
  have length : c.top.method.len = a.method.len := congrArg Method.len frame.method
  cases h with
  | goesOn callee calls pc st inv =>
    have st := st.trans running
    have pc : c.top.pc ≤ a.method.len := pc.elim (fun h => h.trans fits) id
    exact healthy_of_top limited hs below clear callee calls (topOk pc (statusOk_run st (inv.trans idle))) (by simp [st])
  | returns callee calls pc inv status st =>
    rw [Ctx.enter_top] at pc
    exact healthy_of_top limited hs below clear callee calls (topOk (by omega) (status idle)) (by simp [st])
  | called units called =>
    cases called with
    | resumes callee calls pc st inv =>
      rw [Ctx.enter_top] at pc
      exact healthy_of_top limited hs below clear callee calls (topOk (by omega) (statusOk_run st inv)) (by simp [st])
    | waits b call callee calls pc st inv bok brun depth =>
      rw [Ctx.enter_top] at pc
      have room : c.top.pc + 3 ≤ c.top.method.len := by omega
      have hok := topOk (by omega) (by simp [Activation.statusOk, st, inv, room])
      exact healthy_of_callee limited clear callee bok brun depth
        ((belowOk_awaiting (awaitsCallee_of_inv inv)).2 ⟨hok, calls ▸ below⟩)
    | reenters b call callee calls pc st inv bok brun depth =>
      rw [Ctx.enter_top] at pc
      have hok := topOk (by omega) (statusOk_run st inv)
      exact healthy_of_callee limited clear callee bok brun depth
        ((belowOk_inHostCall (awaitsCallee_of_idle inv)).2 ⟨hok, st, by omega, call, _, calls, below⟩)

end

/-- A handler run on a running top activation keeps the invariant. -/
theorem runTop_keeps_inv {n : Nat} {h : Handler Unit} {s t : State} {a : Activation} {rest : List Activation}
    (hs : s.stack = a :: rest) (limited : s.Limited) (ok : a.ok = true) (running : a.st = .run)
    (fits : a.pc + n ≤ a.method.len) (below : belowOk s.ports.calls rest = true)
    (ends : Ends (Ctx.Completed n) n (Ctx.enter s a rest) (h (Ctx.enter s a rest)))
    (clear : (resultCtx (h (Ctx.enter s a rest))).ports.hostExc = none) (ht : runTop h s = .next t) :
    t.inv = true := by
  rcases runTop_cases (h := h) hs with ⟨c, hc, hr⟩ | ⟨e, c, hc, hr⟩ | ⟨f, c, hc, hr⟩ | ⟨c, hc, hr⟩ <;>
    rw [hr] at ht <;> cases ht <;> rw [hc] at ends clear
  case inl =>
    exact (completed_healthy hs limited ok running fits below clear ends.1 ends.2).inv
  case inr.inl =>
    obtain ⟨-, pc, calls⟩ := ends
    obtain ⟨positive, depth⟩ := limited
    rw [hs] at depth
    have hok := takeException_ok e ok (le_trans pc fits)
    exact State.Healthy.inv ⟨⟨positive, depth⟩, stackOk_cons.2 ⟨hok, by simp, calls ▸ below⟩, .inr clear⟩
  case inr.inr.inl =>
    obtain ⟨positive, depth⟩ := limited
    rw [hs] at depth
    exact State.Limited.inv_of_fault ⟨positive, depth⟩ rfl

/-! ### Ending an activation -/

/-- A host call that goes on leaves the host's exception-raised state clear (R604). -/
theorem resumeCall_clear {call : StagedCall} {ended : Reply Unit} {c : Ctx}
    (h : c.ports.hostExc = none ∨ ∃ e, ended = .fails e) :
    (resultCtx (resumeCall call ended c)).ports.hostExc = none := by
  cases ended with
  | ok v =>
    have clear := h.resolve_right (by simp)
    exact (calls_awaitCall call c).frame.clear clear
  | fails e =>
    rw [resumeCall, handler_bind, ask_run]
    exact clears_pickUp c.ports

/-- A chain that ends keeps the invariant of what is below it. -/
theorem chainEnded_keeps_inv {s t : State} {ended : Reply Unit} (limited : s.Limited)
    (below : belowOk s.ports.calls s.stack = true) (host : hostStarted s.stack = true)
    (clear : s.ports.hostExc = none ∨ ∃ e, ended = .fails e) (h : chainEnded s ended = .next t) : t.inv = true := by
  cases hs : s.stack with
  | nil =>
    rw [chainEnded_last ended hs] at h
    cases h
    rw [hs] at below
    exact State.Healthy.inv ⟨limited, by rw [hs, belowOk_nil.1 below]; rfl, .inl hs⟩
  | cons b rest =>
    rw [hs] at below host
    have notAwaiting : b.awaitsCallee = false := by simpa [hostStarted] using host
    obtain ⟨ok, running, fits, call, calls, hcalls, hbelow⟩ := (belowOk_inHostCall notAwaiting).1 below
    rw [chainEnded_call ended hs hcalls] at h
    exact runTop_keeps_inv (n := 3) (s := { s with ports := { s.ports with calls := calls } }) hs
      ⟨limited.positive, limited.depth⟩ ok running fits hbelow
      (sound_of_calls (calls_resumeCall call ended) _) (resumeCall_clear clear) h

/-- What a healthy state leaves when its top activation is popped. -/
structure State.Popped (s : State) (rest : List Activation) : Prop where
  positive : 1 ≤ s.params.maxDepth
  depth : rest.length ≤ s.params.maxDepth
  below : belowOk s.ports.calls rest = true
  clear : s.ports.hostExc = none

theorem State.Healthy.popped {s : State} {a : Activation} {rest : List Activation} (healthy : s.Healthy)
    (hs : s.stack = a :: rest) : s.Popped rest := by
  obtain ⟨⟨positive, depth⟩, stack, clear⟩ := healthy
  rw [hs] at depth stack clear
  exact ⟨positive, (Nat.le_succ _).trans depth, (stackOk_cons.1 stack).2.2, clear.resolve_left (by simp)⟩

/-- A caller that goes on in place of its callee. -/
theorem State.Popped.caller_inv {s : State} {b b' : Activation} {rest : List Activation} (h : s.Popped (b :: rest))
    (w : b.awaitsCallee = true) (ok : b'.ok = true) (st : b'.st ≠ .calling) :
    State.inv { s with stack := b' :: rest } = true :=
  State.Healthy.inv ⟨⟨h.positive, h.depth⟩, stackOk_cons.2 ⟨ok, st, ((belowOk_awaiting w).1 h.below).2⟩, .inr h.clear⟩

/-- The result of a finished activation (R566, R182). -/
theorem deliver_keeps_inv {s t : State} {r : ReturnValue} {rest : List Activation} (popped : s.Popped rest)
    (h : deliver s r rest = .next t) : t.inv = true := by
  cases hh : hostStarted rest with
  | true =>
    rw [deliver, if_pos hh] at h
    refine chainEnded_keeps_inv ?_ ?_ ?_ ?_ h
    exacts [⟨popped.positive, popped.depth⟩, popped.below, hh, .inl popped.clear]
  | false =>
    cases rest with
    | nil => cases hh
    | cons b rest =>
      have awaiting : b.awaitsCallee = true := by simpa [hostStarted] using hh
      rw [deliver_nested awaiting] at h
      cases h
      obtain ⟨ok, -⟩ := (belowOk_awaiting awaiting).1 popped.below
      exact popped.caller_inv awaiting (takeResult_ok r ok awaiting) (by simp)

/-- The exception of an activation that does not handle it (R567, R631). -/
theorem propagate_keeps_inv {s t : State} {e : Handle} {rest : List Activation} (popped : s.Popped rest)
    (h : propagate s e rest = .next t) : t.inv = true := by
  cases hh : hostStarted rest with
  | true =>
    rw [propagate, if_pos hh] at h
    refine chainEnded_keeps_inv ?_ ?_ ?_ ?_ h
    exacts [⟨popped.positive, popped.depth⟩, popped.below, hh, .inr ⟨e, rfl⟩]
  | false =>
    cases rest with
    | nil => cases hh
    | cons b rest =>
      have awaiting : b.awaitsCallee = true := by simpa [hostStarted] using hh
      rw [propagate_nested awaiting] at h
      cases h
      obtain ⟨ok, -⟩ := (belowOk_awaiting awaiting).1 popped.below
      obtain ⟨-, pc, -, -⟩ := Activation.ok_iff.1 ok
      exact popped.caller_inv awaiting (takeException_ok e ok pc) (by simp)

/-- The handler search leaves a healthy state healthy (R623). -/
theorem findHandler_healthy {s : State} (a : Activation) (e : Handle) (healthy : s.Healthy) :
    State.Healthy { s with ports := (a.findHandler e s.ports).2 } := by
  obtain ⟨hclear, -, -, calls⟩ := quiet_findHandler a e s.ports
  obtain ⟨limited, stack, clear⟩ := healthy
  exact ⟨⟨limited.positive, limited.depth⟩, by rw [← calls] at stack; exact stack, clear.imp_right hclear⟩

/-- What resuming at a catch target changes (R623). -/
theorem resumeAt_ok_iff {a b : Activation} {t : Int} (h : a.resumeAt t = .ok b) :
    b = { a with pc := t.toNat, st := .run } ∧ t.toNat ≤ a.method.len := by
  obtain ⟨c, hc, rfl⟩ := checked_map_ok h
  unfold Activation.goTo at hc
  split at hc
  · cases hc
    exact ⟨rfl, by omega⟩
  · cases hc

/-- The unwinder's step (R620). -/
theorem unwind_keeps_inv {s t : State} {a : Activation} {rest : List Activation} {e : Handle}
    (hs : s.stack = a :: rest) (healthy : s.Healthy) (h : unwind s a rest e = .next t) :
    t.inv = true := by
  have after := findHandler_healthy a e healthy
  unfold unwind at h
  split at h
  · rename_i p hp
    rw [hp] at after
    exact propagate_keeps_inv (after.popped hs) h
  · rename_i target p hp
    rw [hp] at after
    split at h <;> cases h
    · rename_i b hb
      obtain ⟨rfl, pc⟩ := resumeAt_ok_iff hb
      obtain ⟨⟨positive, depth⟩, stack, clear⟩ := after
      dsimp only at depth stack clear
      rw [hs] at depth stack clear
      obtain ⟨ok, notCalling, below⟩ := stackOk_cons.1 stack
      obtain ⟨-, -, -, status⟩ := Activation.ok_iff.1 ok
      have idle := idle_of_not_calling status notCalling
      exact State.Healthy.inv ⟨⟨positive, depth⟩,
        stackOk_cons.2 ⟨Activation.ok_of_frame ok rfl rfl pc (statusOk_run rfl idle), by simp, below⟩,
        .inr (clear.resolve_left (by simp))⟩
    · exact State.Limited.inv_of_fault ⟨after.limited.positive, after.limited.depth⟩ rfl

/-! ### Boot -/

/-- The idle engine's step (R703). -/
theorem idleStep_keeps_inv {s : State} (hs : s.stack = []) (healthy : s.Healthy) : (idleStep s).inv = true := by
  unfold idleStep
  split
  · exact healthy.inv
  · rename_i call later _
    obtain ⟨⟨positive, depth⟩, stack, -⟩ := healthy
    have quiet := quiet_startChain s.params.maxDepth 0 call { s.ports with entries := later, hostExc := none }
    unfold boot
    split
    · rename_i b p hb
      rw [hb] at quiet
      obtain ⟨clear, -, -, calls⟩ := quiet
      obtain ⟨ok, running, -⟩ := startChain_ok (congrArg Prod.fst hb)
      have below : belowOk p.calls [] = true := by rw [calls, belowOk_nil]; simpa [hs, stackOk] using stack
      exact State.Healthy.inv ⟨⟨positive, positive⟩, stackOk_cons.2 ⟨ok, by simp [running], below⟩, .inr (clear rfl)⟩
    · exact State.Limited.inv_of_fault ⟨positive, depth⟩ rfl

/-! ### One step -/

/-- What a step that gives a next state was (R170, R643). -/
inductive StepCase (s t : State) : Prop where
  | idle (stack : s.stack = []) (next : t = idleStep s)
  | runs (a : Activation) (rest : List Activation) (i : Instr) (stack : s.stack = a :: rest) (st : a.st = .run)
      (fetched : a.method.fetch a.pc = .ok i) (next : exec i s = .next t)
  | fetchFaults (a : Activation) (rest : List Activation) (f : EngineFault) (stack : s.stack = a :: rest)
      (st : a.st = .run) (next : t = s.abort f)
  | unwinds (a : Activation) (rest : List Activation) (e : Handle) (stack : s.stack = a :: rest) (st : a.st = .throwing)
      (exc : a.exc = some e) (next : unwind s a rest e = .next t)
  | delivers (a : Activation) (rest : List Activation) (stack : s.stack = a :: rest) (st : a.st = .finished)
      (next : deliver s a.ret rest = .next t)

theorem step_cases {s t : State} (h : step s = .next t) : s.fault = none ∧ StepCase s t := by
  unfold step at h
  split at h
  · cases h
  · rename_i hf
    refine ⟨hf, ?_⟩
    split at h
    · rename_i hs
      cases h
      exact .idle hs rfl
    · rename_i a rest hs
      split at h
      · rename_i st
        split at h
        · rename_i i fetched
          exact .runs a rest i hs st fetched h
        · rename_i f _
          cases h
          exact .fetchFaults a rest f hs st rfl
      · rename_i st
        unfold throwingStep at h
        split at h
        · cases h
        · rename_i e exc
          exact .unwinds a rest e hs st exc h
      · rename_i st
        exact .delivers a rest hs st h
      · cases h

/-- An instruction keeps the invariant. -/
theorem exec_keeps_inv {s t : State} {a : Activation} {rest : List Activation} {i : Instr} (hs : s.stack = a :: rest)
    (healthy : s.Healthy) (running : a.st = .run) (fetched : a.method.fetch a.pc = .ok i)
    (h : exec i s = .next t) : t.inv = true := by
  obtain ⟨limited, stack, clear⟩ := healthy
  rw [hs] at stack clear
  obtain ⟨ok, -, below⟩ := stackOk_cons.1 stack
  have clear := clear.resolve_left (by simp)
  obtain ⟨handler, runs, sound⟩ := exec_runs_sound i
  rw [runs s] at h
  exact runTop_keeps_inv hs limited ok running (fetch_inside fetched) below (sound _)
    ((sound (Ctx.enter s a rest)).frame.clear clear) h

end Sys2Proof.Machine
end

section
/-! What the steps leave of the other activations (spec/00_scope.md R11, spec/10_state.md R31). -/

namespace Sys2Proof.Machine

/-- `top`, under at most one new activation, stands above `rest`. -/
def TopOver (stack : List Activation) (top : Activation) (rest : List Activation) : Prop :=
  stack = top :: rest ∨ ∃ c, stack = c :: top :: rest

theorem topOver_stackOver (c : Ctx) (rest : List Activation) : TopOver (c.stackOver rest) c.top rest := by
  unfold Ctx.stackOver
  cases c.callee with
  | none => exact .inl rfl
  | some b => exact .inr ⟨b, rfl⟩

/-- A handler keeps the frame: the activations below, the method and the slots of its own, the parameters and the waiting
entry calls. -/
theorem runTop_frame {D : Ctx → Ctx → Prop} {n : Nat} {h : Handler Unit} {s t : State} {a : Activation}
    {rest : List Activation} (hs : s.stack = a :: rest)
    (ends : Ends D n (Ctx.enter s a rest) (h (Ctx.enter s a rest))) (ht : runTop h s = .next t) :
    (∃ b, b.method = a.method ∧ b.regs.length = a.regs.length ∧ TopOver t.stack b rest) ∧
      t.params = s.params ∧ t.ports.entries = s.ports.entries := by
  have frame := ends.frame
  rcases runTop_cases (h := h) hs with ⟨c, hc, hr⟩ | ⟨e, c, hc, hr⟩ | ⟨f, c, hc, hr⟩ | ⟨c, hc, hr⟩ <;>
    rw [hr] at ht <;> cases ht <;> rw [hc] at frame
  case inl => exact ⟨⟨c.top, frame.method, frame.slots, topOver_stackOver c rest⟩, rfl, frame.entries⟩
  case inr.inl =>
    refine ⟨⟨_, ?_, ?_, .inl rfl⟩, rfl, frame.entries⟩ <;> rfl
  case inr.inr.inl =>
    refine ⟨⟨_, ?_, ?_, .inl rfl⟩, rfl, frame.entries⟩ <;> rfl

theorem exec_frame {i : Instr} {s t : State} {a : Activation} {rest : List Activation} (hs : s.stack = a :: rest)
    (h : exec i s = .next t) :
    (∃ b, b.method = a.method ∧ b.regs.length = a.regs.length ∧ TopOver t.stack b rest) ∧
      t.params = s.params ∧ t.ports.entries = s.ports.entries := by
  obtain ⟨handler, runs, sound⟩ := exec_runs_sound i
  rw [runs s] at h
  exact runTop_frame hs (sound _) h

/-! ### What a caller keeps when its callee is popped -/

/-- A host call that goes on writes no register (R563). -/
theorem awaitCall_regs {call : StagedCall} {c d : Ctx} {u : Unit} (h : awaitCall call c = .ok u d) :
    d.top.regs = c.top.regs := by
  rw [awaitCall, handler_bind, ask_run] at h
  dsimp only at h
  cases hr : (callAnswer c.ports).1 with
  | returns bits =>
    rw [hr] at h
    cases h
    simp
  | fails e => rw [hr] at h; cases h
  | reenters entry =>
    rw [hr] at h
    dsimp only at h
    rw [handler_bind, handler_get] at h
    dsimp only at h
    rw [handler_bind, ask_run] at h
    dsimp only at h
    generalize (startChain c.params.maxDepth c.depth entry (callAnswer c.ports).2).1 = started at h
    cases started with
    | error f => cases h
    | ok b => cases h; rfl

theorem resumeCall_regs {call : StagedCall} {ended : Reply Unit} {c d : Ctx} {u : Unit}
    (h : resumeCall call ended c = .ok u d) : d.top.regs = c.top.regs := by
  cases ended with
  | ok v => exact awaitCall_regs h
  | fails e => cases h

/-- The end of a chain: the activation below it keeps its registers and its method, and stays above the others. -/
theorem chainEnded_isolated {s t : State} {ended : Reply Unit} {b : Activation} {below : List Activation}
    (hs : s.stack = b :: below) (h : chainEnded s ended = .next t) :
    ∃ b', b'.regs = b.regs ∧ b'.method = b.method ∧ TopOver t.stack b' below := by
  cases hcalls : s.ports.calls with
  | nil => simp [chainEnded, hs, hcalls] at h
  | cons call calls =>
    rw [chainEnded_call ended hs hcalls] at h
    have frame := (calls_resumeCall call ended
      (Ctx.enter { s with ports := { s.ports with calls := calls } } b below)).frame
    rcases runTop_cases (h := resumeCall call ended) (s := { s with ports := { s.ports with calls := calls } }) hs with
      ⟨c, hc, hr⟩ | ⟨e, c, hc, hr⟩ | ⟨f, c, hc, hr⟩ | ⟨c, hc, hr⟩ <;> rw [hr] at h <;> cases h
    · rw [hc] at frame
      exact ⟨c.top, resumeCall_regs hc, frame.method, topOver_stackOver c below⟩
    · refine ⟨_, ?_, ?_, .inl rfl⟩ <;> rfl
    · refine ⟨_, ?_, ?_, .inl rfl⟩ <;> rfl

theorem deliver_isolated {s t : State} {r : ReturnValue} {b : Activation} {below : List Activation}
    (h : deliver s r (b :: below) = .next t) :
    ∃ b', b'.regs = b.regs ∧ b'.method = b.method ∧ TopOver t.stack b' below := by
  unfold deliver at h
  split at h
  · exact chainEnded_isolated rfl h
  · cases h
    exact ⟨b.takeResult r, b.takeResult_regs r, b.takeResult_method r, .inl rfl⟩

theorem propagate_isolated {s t : State} {e : Handle} {b : Activation} {below : List Activation}
    (h : propagate s e (b :: below) = .next t) :
    ∃ b', b'.regs = b.regs ∧ b'.method = b.method ∧ TopOver t.stack b' below := by
  unfold propagate at h
  split at h
  · exact chainEnded_isolated rfl h
  · cases h
    exact ⟨b.takeException e, rfl, rfl, .inl rfl⟩

/-- A catching unwinder step keeps the top activation in its place (R623). -/
theorem unwind_catches {s t : State} {a : Activation} {rest : List Activation} {e : Handle} (hs : s.stack = a :: rest)
    (h : unwind s a rest e = .next t) (caught : ∀ p, a.findHandler e s.ports ≠ (none, p)) :
    ∃ a', a'.method = a.method ∧ TopOver t.stack a' rest := by
  unfold unwind at h
  split at h
  · rename_i p hp
    exact absurd hp (caught p)
  · split at h <;> cases h
    · rename_i b hb
      obtain ⟨rfl, -⟩ := resumeAt_ok_iff hb
      refine ⟨_, ?_, .inl rfl⟩
      rfl
    · exact ⟨a, rfl, .inl hs⟩

/-- An unwinder step that catches nothing pops the top activation (R624). -/
theorem unwind_pops {s t : State} {a b : Activation} {below : List Activation} {e : Handle} {p : Ports}
    (h : unwind s a (b :: below) e = .next t) (missed : a.findHandler e s.ports = (none, p)) :
    ∃ b', b'.regs = b.regs ∧ b'.method = b.method ∧ TopOver t.stack b' below := by
  unfold unwind at h
  rw [missed] at h
  exact propagate_isolated h

end Sys2Proof.Machine
end

section
/-! The statements about every step and every instruction (spec/00_scope.md): the invariant, and what is left alone. -/

namespace Sys2Proof.Machine

/-- Settles O8, by the cases of a step: of a handler's ending, of a popped activation, of the unwinder and of boot. -/
theorem stepKeepsInv : Obligations.StepKeepsInv := by
  intro s t inv h
  obtain ⟨hf, stepped⟩ := step_cases h
  have healthy := State.healthy_of_inv inv hf
  cases stepped with
  | idle stack next => exact next ▸ idleStep_keeps_inv stack healthy
  | runs a rest i stack st fetched next => exact exec_keeps_inv stack healthy st fetched next
  | fetchFaults a rest f stack st next =>
    subst next
    exact State.Limited.inv_of_fault ⟨healthy.limited.positive, healthy.limited.depth⟩ rfl
  | unwinds a rest e stack st exc next => exact unwind_keeps_inv stack healthy next
  | delivers a rest stack st next => exact deliver_keeps_inv (healthy.popped stack) next

/-- Settles O56: an instruction by the frame of its handler, a step by its cases. -/
theorem callerIsolation : Obligations.CallerIsolation := by
  refine ⟨fun i s t a rest hs h => exec_frame hs h, ?_⟩
  intro s t a b below hs h popped
  obtain ⟨-, stepped⟩ := step_cases h
  cases stepped with
  | idle stack next => simp [hs] at stack
  | runs a' rest i stack st fetched next =>
    obtain ⟨rfl, rfl⟩ := List.cons.inj (hs.symm.trans stack)
    have notPopped : ¬popped := by simp [popped, st]
    obtain ⟨⟨c, method, -, kept⟩, -, -⟩ := exec_frame hs next
    exact ⟨fun _ => ⟨c, method, kept⟩, fun hp => absurd hp notPopped⟩
  | fetchFaults a' rest f stack st next =>
    obtain ⟨rfl, rfl⟩ := List.cons.inj (hs.symm.trans stack)
    have notPopped : ¬popped := by simp [popped, st]
    subst next
    exact ⟨fun _ => ⟨a, rfl, .inl hs⟩, fun hp => absurd hp notPopped⟩
  | unwinds a' rest e stack st exc next =>
    obtain ⟨rfl, rfl⟩ := List.cons.inj (hs.symm.trans stack)
    refine ⟨fun kept => unwind_catches hs next fun p hp => kept (.inr ⟨st, e, p, exc, hp⟩), fun hp => ?_⟩
    obtain ⟨-, e', p, exc', missed⟩ := hp.resolve_left (by simp [st])
    obtain rfl : e = e' := Option.some.inj (exc.symm.trans exc')
    exact unwind_pops next missed
  | delivers a' rest stack st next =>
    obtain ⟨rfl, rfl⟩ := List.cons.inj (hs.symm.trans stack)
    exact ⟨fun kept => absurd (.inl st) kept, fun _ => deliver_isolated next⟩

end Sys2Proof.Machine
end

section
/-! Rounding to nearest, ties to even (spec/43_arith_float_conv.md R351, R353). The magnitude bits of a format, with no end
to the exponents, list its values in order: the grid. The last place chosen for a value makes the grid's spacing around it,
so the nearest whole number of last places is the nearest point of the grid. -/

namespace Sys2Proof.Machine

/-! ### Powers and quotients -/

theorem zpow_eq_div (k : Int) : (2 : ℚ) ^ k = 2 ^ k.toNat / 2 ^ (-k).toNat := by
  rcases le_total 0 k with h | h
  · have h' : (-k).toNat = 0 := by omega
    lift k to ℕ using h
    simp [h']
  · obtain ⟨m, rfl⟩ : ∃ m : ℕ, k = -m := ⟨(-k).toNat, by omega⟩
    simp

/-- What `ratioLog2` tests (R353). -/
theorem zpow_le_div_iff {n d : Nat} (hd : 0 < d) (k : Int) :
    (2 : ℚ) ^ k ≤ (n : ℚ) / d ↔ d * 2 ^ k.toNat ≤ n * 2 ^ (-k).toNat := by
  have hd' : (0 : ℚ) < d := by exact_mod_cast hd
  rw [zpow_eq_div, div_le_div_iff₀ (by positivity) hd']
  norm_cast
  rw [mul_comm]

/-- `ratioLog2` is the binary exponent. -/
theorem ratioLog2_spec {n d : Nat} (hn : 0 < n) (hd : 0 < d) :
    (2 : ℚ) ^ ratioLog2 n d ≤ (n : ℚ) / d ∧ (n : ℚ) / d < 2 ^ (ratioLog2 n d + 1) := by
  have hd' : (0 : ℚ) < d := by exact_mod_cast hd
  have nlo : (2 : ℚ) ^ (n.log2 : ℤ) ≤ n := by exact_mod_cast Nat.log2_self_le hn.ne'
  have nhi : (n : ℚ) < 2 ^ ((n.log2 : ℤ) + 1) := by exact_mod_cast Nat.lt_log2_self
  have dlo : (2 : ℚ) ^ (d.log2 : ℤ) ≤ d := by exact_mod_cast Nat.log2_self_le hd.ne'
  have dhi : (d : ℚ) < 2 ^ ((d.log2 : ℤ) + 1) := by exact_mod_cast Nat.lt_log2_self
  have upper : (n : ℚ) / d < 2 ^ ((n.log2 : ℤ) - d.log2 + 1) := by
    rw [div_lt_iff₀ hd']
    calc (n : ℚ) < 2 ^ ((n.log2 : ℤ) + 1) := nhi
      _ = 2 ^ ((n.log2 : ℤ) - d.log2 + 1) * 2 ^ (d.log2 : ℤ) := by rw [← zpow_add₀ two_ne_zero]; congr 1; ring
      _ ≤ _ := by gcongr
  have lower : (2 : ℚ) ^ ((n.log2 : ℤ) - d.log2 - 1) ≤ (n : ℚ) / d := by
    rw [le_div_iff₀ hd']
    calc (2 : ℚ) ^ ((n.log2 : ℤ) - d.log2 - 1) * d
        ≤ 2 ^ ((n.log2 : ℤ) - d.log2 - 1) * 2 ^ ((d.log2 : ℤ) + 1) := by gcongr
      _ = 2 ^ (n.log2 : ℤ) := by rw [← zpow_add₀ two_ne_zero]; congr 1; ring
      _ ≤ n := nlo
  unfold ratioLog2
  dsimp only
  split
  · rename_i h
    exact ⟨(zpow_le_div_iff hd _).2 h, upper⟩
  · rename_i h
    rw [sub_add_cancel]
    exact ⟨lower, lt_of_not_ge fun g => h ((zpow_le_div_iff hd _).1 g)⟩

/-! ### The nearest whole number -/

/-- `divNearestEven` is within a half of the quotient, and even when it is a half away. -/
theorem divNearestEven_near (n : Nat) {d : Nat} (hd : 0 < d) :
    |(divNearestEven n d : ℚ) - n / d| ≤ 1 / 2 ∧
      (|(divNearestEven n d : ℚ) - n / d| = 1 / 2 → divNearestEven n d % 2 = 0) := by
  have hd' : (0 : ℚ) < d := by exact_mod_cast hd
  have quot : (n : ℚ) / d = (n / d : ℕ) + (n % d : ℕ) / d := by
    rw [div_eq_iff hd'.ne', add_mul, div_mul_cancel₀ _ hd'.ne']
    exact_mod_cast (Nat.div_add_mod' n d).symm
  have nonneg : (0 : ℚ) ≤ (n % d : ℕ) / d := by positivity
  have below : ((n % d : ℕ) : ℚ) / d < 1 / 2 ↔ 2 * (n % d) < d := by
    rw [div_lt_div_iff₀ hd' two_pos]; norm_cast; omega
  have above : 1 / 2 < ((n % d : ℕ) : ℚ) / d ↔ d < 2 * (n % d) := by
    rw [div_lt_div_iff₀ two_pos hd']; norm_cast; omega
  have less : ((n % d : ℕ) : ℚ) / d < 1 := by
    rw [div_lt_one hd']; exact_mod_cast Nat.mod_lt n hd
  unfold divNearestEven
  dsimp only
  rw [quot]
  generalize ((n % d : ℕ) : ℚ) / d = r at *
  split
  · rename_i h
    have := below.2 h
    rw [show ((n / d : ℕ) : ℚ) - ((n / d : ℕ) + r) = -r by ring, abs_neg, abs_of_nonneg nonneg]
    exact ⟨this.le, fun he => absurd he this.ne⟩
  · rename_i h
    split
    · rename_i h'
      have := above.2 h'
      rw [show ((n / d + 1 : ℕ) : ℚ) - ((n / d : ℕ) + r) = 1 - r by push_cast; ring, abs_of_pos (by linarith)]
      exact ⟨by linarith, fun he => by linarith⟩
    · rename_i h'
      have half : r = 1 / 2 := le_antisymm (not_lt.1 fun g => h' (above.1 g)) (not_lt.1 fun g => h (below.1 g))
      subst half
      split
      · rename_i even
        rw [show ((n / d : ℕ) : ℚ) - ((n / d : ℕ) + 1 / 2) = -(1 / 2) by ring]
        exact ⟨by norm_num, fun _ => even⟩
      · rename_i odd
        rw [show ((n / d + 1 : ℕ) : ℚ) - ((n / d : ℕ) + 1 / 2) = 1 / 2 by push_cast; ring]
        exact ⟨by norm_num, fun _ => by omega⟩

/-- A whole number within a half of a value is a nearest one, and the only one unless it is a half away. -/
theorem nearest_of_near {m z : Nat} {y : ℚ} (h : |(m : ℚ) - y| ≤ 1 / 2) :
    |(m : ℚ) - y| ≤ |(z : ℚ) - y| ∧ (|(m : ℚ) - y| = |(z : ℚ) - y| → z = m ∨ |(m : ℚ) - y| = 1 / 2) := by
  rcases eq_or_ne z m with rfl | hne
  · exact ⟨le_rfl, fun _ => .inl rfl⟩
  · have apart : (1 : ℚ) ≤ |(z : ℚ) - m| := by
      have : (1 : ℤ) ≤ |(z : ℤ) - m| := Int.one_le_abs (by omega)
      exact_mod_cast this
    have triangle : |(z : ℚ) - m| ≤ |(z : ℚ) - y| + |(m : ℚ) - y| := by
      rw [abs_sub_comm (m : ℚ) y]
      exact abs_sub_le _ _ _
    exact ⟨by linarith, fun he => .inr (by linarith)⟩

/-! ### The grid of a format -/

/-- The value of magnitude bits, were there no end to the exponents: bits j × 2^frac + q, with q below 2 × 2^frac and not
below 2^frac unless j is 0, stand for q places of 2^(minExp + j). -/
def FloatFormat.grid (f : FloatFormat) (mag : Nat) : ℚ :=
  (mag - (mag / 2 ^ f.frac - 1) * 2 ^ f.frac : ℕ) * (2 : ℚ) ^ (f.minExp + (mag / 2 ^ f.frac - 1 : ℕ))

/-- The grid in steps of its `j`-th spacing, one step past its end included. -/
theorem grid_steps (f : FloatFormat) {j q : Nat} (hq : q ≤ 2 * 2 ^ f.frac) (hj : j = 0 ∨ 2 ^ f.frac ≤ q) :
    f.grid (j * 2 ^ f.frac + q) = q * (2 : ℚ) ^ (f.minExp + j) := by
  have hB : 0 < 2 ^ f.frac := by positivity
  have hdiv : (j * 2 ^ f.frac + q) / 2 ^ f.frac = j + q / 2 ^ f.frac := by
    rw [add_comm, Nat.add_mul_div_right _ _ hB, add_comm]
  unfold FloatFormat.grid
  rw [hdiv]
  rcases lt_or_ge q (2 ^ f.frac) with low | high
  · obtain rfl : j = 0 := hj.resolve_right (by omega)
    simp [Nat.div_eq_of_lt low]
  · rcases hq.lt_or_eq with inside | rfl
    · have one : q / 2 ^ f.frac = 1 := by
        rw [Nat.div_eq_iff hB]; omega
      simp [one]
    · have two : 2 * 2 ^ f.frac / 2 ^ f.frac = 2 := Nat.mul_div_cancel _ hB
      have rest : j * 2 ^ f.frac + 2 * 2 ^ f.frac - (j + 2 - 1) * 2 ^ f.frac = 2 ^ f.frac := by
        rw [show j + 2 - 1 = j + 1 by omega, add_mul]; omega
      rw [two, rest, show j + 2 - 1 = j + 1 by omega]
      push_cast
      rw [← add_assoc, zpow_add_one₀ two_ne_zero]
      ring

/-- Every magnitude lies in one spacing of the grid. -/
theorem exists_steps (f : FloatFormat) (mag : Nat) :
    ∃ j q, mag = j * 2 ^ f.frac + q ∧ q < 2 * 2 ^ f.frac ∧ (j = 0 ∨ 2 ^ f.frac ≤ q) := by
  have hB : 0 < 2 ^ f.frac := by positivity
  have hmod := Nat.mod_lt mag hB
  have hdiv := Nat.div_add_mod' mag (2 ^ f.frac)
  cases hk : mag / 2 ^ f.frac with
  | zero => exact ⟨0, mag, by omega, by rw [hk] at hdiv; omega, .inl rfl⟩
  | succ j =>
    rw [hk, add_mul] at hdiv
    exact ⟨j, 2 ^ f.frac + mag % 2 ^ f.frac, by omega, by omega, .inr (by omega)⟩

theorem grid_strictMono (f : FloatFormat) : StrictMono f.grid := by
  refine strictMono_nat_of_lt_succ fun mag => ?_
  obtain ⟨j, q, rfl, hq, hj⟩ := exists_steps f mag
  rw [add_assoc, grid_steps f hq.le hj, grid_steps f hq (hj.imp_right fun h => by omega)]
  push_cast
  gcongr
  exact lt_add_one _

/-- A finite pattern's value is its magnitude's point of the grid. -/
theorem unpack_toRat (f : FloatFormat) {mag : Nat} (h : mag < f.infBits) : (f.unpack mag).toRat = f.grid mag := by
  have hB : 0 < 2 ^ f.frac := by positivity
  have hex : mag / 2 ^ f.frac < 2 ^ f.exp - 1 := (Nat.div_lt_iff_lt_mul hB).2 h
  have hex' : mag / 2 ^ f.frac < 2 ^ f.exp := hex.trans_le (Nat.sub_le _ _)
  have hsign : mag / 2 ^ (f.frac + f.exp) = 0 := by
    rw [pow_add, ← Nat.div_div_eq_div_mul]
    exact Nat.div_eq_of_lt hex'
  have hmod : mag / 2 ^ f.frac % 2 ^ f.exp = mag / 2 ^ f.frac := Nat.mod_eq_of_lt hex'
  have hdiv := Nat.div_add_mod' mag (2 ^ f.frac)
  unfold FloatFormat.unpack FloatFormat.grid
  dsimp only
  rw [hmod, hsign, if_neg hex.ne]
  split
  · rename_i zero
    have whole : mag % 2 ^ f.frac = mag := by rw [zero] at hdiv; omega
    simp [FloatValue.toRat, scaled, zero, whole]
  · rename_i nonzero
    obtain ⟨j, hj⟩ : ∃ j, mag / 2 ^ f.frac = j + 1 := Nat.exists_eq_succ_of_ne_zero nonzero
    rw [hj, add_mul] at hdiv
    have mantissa : mag - (j + 1 - 1) * 2 ^ f.frac = 2 ^ f.frac + mag % 2 ^ f.frac := by
      rw [Nat.add_sub_cancel]; omega
    have exponent : f.minExp + (j + 1 : ℤ) - 1 = f.minExp + j := by ring
    rw [hj, mantissa]
    simp [FloatValue.toRat, scaled, exponent]

/-! ### Rounding onto the grid -/

/-- The exponent of the last place for n / d × 2^e. -/
def FloatFormat.lastPlace (f : FloatFormat) (n d : Nat) (e : Int) : Int := max f.minExp (ratioLog2 n d + e - f.frac)

/-- The value in last places, rounded. -/
def FloatFormat.places (f : FloatFormat) (n d : Nat) (e : Int) : Nat :=
  divNearestEven (n * 2 ^ (e - f.lastPlace n d e).toNat) (d * 2 ^ (f.lastPlace n d e - e).toNat)

/-- The magnitude bits that rounding chooses with no end to the exponents. -/
def FloatFormat.roundGrid (f : FloatFormat) (n d : Nat) (e : Int) : Nat :=
  (f.lastPlace n d e - f.minExp).toNat * 2 ^ f.frac + f.places n d e

theorem round_eq_min (f : FloatFormat) {n : Nat} (d : Nat) (e : Int) (hn : 0 < n) :
    f.round n d e = min f.infBits (f.roundGrid n d e) := by
  rw [FloatFormat.round, if_neg hn.ne']
  rfl

section
variable (f : FloatFormat) {n d : Nat} (e : Int)

/-- The value in last places lies below 2 × 2^frac, and not below 2^frac unless the last place is the subnormals'. -/
theorem lastPlace_spec (hn : 0 < n) (hd : 0 < d) :
    (n : ℚ) / d * 2 ^ e / 2 ^ f.lastPlace n d e < 2 * 2 ^ f.frac ∧
      (f.lastPlace n d e = f.minExp ∨ (2 : ℚ) ^ f.frac ≤ (n : ℚ) / d * 2 ^ e / 2 ^ f.lastPlace n d e) := by
  obtain ⟨lower, upper⟩ := ratioLog2_spec hn hd
  have twos : ∀ a b : ℤ, (2 : ℚ) ^ a * 2 ^ b = 2 ^ (a + b) := fun a b => (zpow_add₀ two_ne_zero a b).symm
  have hlast : ratioLog2 n d + e - f.frac ≤ f.lastPlace n d e := le_max_right _ _
  constructor
  · rw [div_lt_iff₀ (by positivity)]
    calc (n : ℚ) / d * 2 ^ e < 2 ^ (ratioLog2 n d + 1) * 2 ^ e := by gcongr
      _ = 2 ^ (ratioLog2 n d + 1 + e) := twos _ _
      _ ≤ 2 ^ ((1 + f.frac : ℤ) + f.lastPlace n d e) := zpow_le_zpow_right₀ one_le_two (by omega)
      _ = 2 * 2 ^ f.frac * 2 ^ f.lastPlace n d e := by rw [← twos, ← twos, zpow_one, zpow_natCast]
  · rcases max_choice f.minExp (ratioLog2 n d + e - f.frac) with h | h
    · exact .inl h
    · right
      change f.lastPlace n d e = _ at h
      rw [le_div_iff₀ (by positivity), h]
      calc (2 : ℚ) ^ f.frac * 2 ^ (ratioLog2 n d + e - f.frac) = 2 ^ (ratioLog2 n d) * 2 ^ e := by
            rw [← zpow_natCast, twos, twos]; congr 1; ring
        _ ≤ _ := by gcongr

/-- The rounded places are within a half of the value in last places, and even when they are a half away. -/
theorem places_near (n : Nat) (hd : 0 < d) :
    |(f.places n d e : ℚ) - (n : ℚ) / d * 2 ^ e / 2 ^ f.lastPlace n d e| ≤ 1 / 2 ∧
      (|(f.places n d e : ℚ) - (n : ℚ) / d * 2 ^ e / 2 ^ f.lastPlace n d e| = 1 / 2 → f.places n d e % 2 = 0) := by
  have near := divNearestEven_near (n * 2 ^ (e - f.lastPlace n d e).toNat)
    (d := d * 2 ^ (f.lastPlace n d e - e).toNat) (by positivity)
  have value : ((n * 2 ^ (e - f.lastPlace n d e).toNat : ℕ) : ℚ) / (d * 2 ^ (f.lastPlace n d e - e).toNat : ℕ) =
      (n : ℚ) / d * 2 ^ e / 2 ^ f.lastPlace n d e := by
    rw [mul_div_assoc, ← zpow_sub₀ two_ne_zero, zpow_eq_div (e - _), neg_sub]
    push_cast
    rw [div_mul_div_comm]
  rwa [value] at near

/-- The chosen bits stand for the rounded places. -/
theorem grid_roundGrid (hn : 0 < n) (hd : 0 < d) :
    f.grid (f.roundGrid n d e) = f.places n d e * (2 : ℚ) ^ f.lastPlace n d e := by
  obtain ⟨upper, lower⟩ := lastPlace_spec f e hn hd
  obtain ⟨near, -⟩ := places_near f e n hd
  have scale : f.minExp + ((f.lastPlace n d e - f.minExp).toNat : ℤ) = f.lastPlace n d e := by
    have : f.minExp ≤ f.lastPlace n d e := le_max_left _ _
    omega
  obtain ⟨near1, near2⟩ := abs_le.1 near
  have le : f.places n d e ≤ 2 * 2 ^ f.frac := by
    have : (f.places n d e : ℚ) < (2 * 2 ^ f.frac : ℕ) + 1 := by push_cast; linarith
    exact Nat.lt_succ_iff.1 (by exact_mod_cast this)
  rw [FloatFormat.roundGrid, grid_steps f le, scale]
  refine lower.imp (fun h => by rw [h]; simp) fun h => ?_
  have : ((2 ^ f.frac : ℕ) : ℚ) < f.places n d e + 1 := by push_cast; linarith
  exact Nat.lt_succ_iff.1 (by exact_mod_cast this)

/-- A point of the grid is a whole number of last places, or lies below where that spacing begins. -/
theorem grid_in_places (f : FloatFormat) (last : Int) (mag : Nat) :
    (∃ z : ℕ, f.grid mag = z * (2 : ℚ) ^ last) ∨ last ≠ f.minExp ∧ f.grid mag < 2 ^ f.frac * 2 ^ last := by
  obtain ⟨j, q, hmag, hq, hj⟩ := exists_steps f mag
  have point : f.grid mag = q * (2 : ℚ) ^ (f.minExp + j) := by rw [hmag, grid_steps f hq.le hj]
  rcases le_or_gt last (f.minExp + j) with fine | coarse
  · refine .inl ⟨q * 2 ^ (f.minExp + j - last).toNat, ?_⟩
    rw [point]
    push_cast
    rw [mul_assoc, ← zpow_natCast, ← zpow_add₀ two_ne_zero]
    congr 2
    omega
  · refine .inr ⟨by omega, ?_⟩
    have scale : (2 : ℚ) ^ (f.minExp + j + 1) ≤ 2 ^ last := zpow_le_zpow_right₀ one_le_two (by omega)
    calc f.grid mag = q * (2 : ℚ) ^ (f.minExp + j) := point
      _ < (2 * 2 ^ f.frac) * 2 ^ (f.minExp + j) := by gcongr; exact_mod_cast hq
      _ = 2 ^ f.frac * 2 ^ (f.minExp + j + 1) := by rw [zpow_add_one₀ two_ne_zero]; ring
      _ ≤ 2 ^ f.frac * 2 ^ last := by gcongr

theorem roundGrid_even (hf : 1 ≤ f.frac) (h : f.places n d e % 2 = 0) : f.roundGrid n d e % 2 = 0 := by
  obtain ⟨k, hk⟩ : ∃ k, f.frac = k + 1 := ⟨f.frac - 1, by omega⟩
  rw [FloatFormat.roundGrid, hk, pow_succ, ← mul_assoc]
  omega

/-- No point of the grid is nearer than the chosen one; one as near is the same, or the chosen bits are even. -/
theorem roundGrid_nearest (hf : 1 ≤ f.frac) (hn : 0 < n) (hd : 0 < d) (mag : Nat) :
    |f.grid (f.roundGrid n d e) - (n : ℚ) / d * 2 ^ e| ≤ |f.grid mag - (n : ℚ) / d * 2 ^ e| ∧
      (|f.grid (f.roundGrid n d e) - (n : ℚ) / d * 2 ^ e| = |f.grid mag - (n : ℚ) / d * 2 ^ e| →
        mag = f.roundGrid n d e ∨ f.roundGrid n d e % 2 = 0) := by
  obtain ⟨-, lower⟩ := lastPlace_spec f e hn hd
  obtain ⟨near, tie⟩ := places_near f e n hd
  have chosen := grid_roundGrid f e hn hd
  have even := roundGrid_even f (n := n) (d := d) e hf
  have points := grid_in_places f (f.lastPlace n d e) mag
  generalize (n : ℚ) / d * 2 ^ e = x at *
  generalize f.lastPlace n d e = last at *
  have hu : (0 : ℚ) < 2 ^ last := by positivity
  have inPlaces : ∀ m : ℚ, |m * 2 ^ last - x| = |m - x / 2 ^ last| * 2 ^ last := fun m => by
    rw [← abs_of_pos hu, ← abs_mul, sub_mul, abs_of_pos hu, div_mul_cancel₀ _ hu.ne']
  rcases points with ⟨z, hz⟩ | ⟨coarse, below⟩
  · obtain ⟨le, eq⟩ := nearest_of_near (z := z) near
    rw [hz, chosen, inPlaces, inPlaces]
    refine ⟨by gcongr, fun h => ?_⟩
    rcases eq (mul_right_cancel₀ hu.ne' h) with same | half
    · exact .inl ((grid_strictMono f).injective (by rw [hz, chosen, same]))
    · exact .inr (even (tie half))
  · have floor : (2 : ℚ) ^ f.frac * 2 ^ last ≤ x := (le_div_iff₀ hu).1 (lower.resolve_left coarse)
    have nearer : |f.grid (f.roundGrid n d e) - x| ≤ x - 2 ^ f.frac * 2 ^ last := by
      obtain ⟨le, -⟩ := nearest_of_near (z := 2 ^ f.frac) near
      push_cast at le
      calc |f.grid (f.roundGrid n d e) - x|
          = |(f.places n d e : ℚ) - x / 2 ^ last| * 2 ^ last := by rw [chosen, inPlaces]
        _ ≤ |(2 : ℚ) ^ f.frac - x / 2 ^ last| * 2 ^ last := by gcongr
        _ = x - 2 ^ f.frac * 2 ^ last := by rw [← inPlaces, abs_sub_comm, abs_of_nonneg (by linarith)]
    have away : |f.grid mag - x| = x - f.grid mag := by rw [abs_sub_comm, abs_of_nonneg (by linarith)]
    exact ⟨by linarith, fun h => by linarith⟩

end

/-! ### Past the largest finite value -/

section
variable (f : FloatFormat) (hf : 1 ≤ f.frac) (he : 2 ≤ f.exp)
include hf he

/-- The infinity's magnitude is even, and it and the two below it are the last steps of one spacing. -/
theorem infBits_steps : f.infBits % 2 = 0 ∧ ∃ u : ℚ, 0 < u ∧ f.grid f.infBits - u = f.grid (f.infBits - 1) ∧
    f.grid (f.infBits - 1) - u = f.grid (f.infBits - 2) := by
  obtain ⟨k, hk⟩ : ∃ k, f.frac = k + 1 := ⟨f.frac - 1, by omega⟩
  have hB : 2 ^ f.frac = 2 * 2 ^ k := by rw [hk, pow_succ, mul_comm]
  have hk0 : 0 < 2 ^ k := by positivity
  obtain ⟨j, hj⟩ : ∃ j, 2 ^ f.exp - 1 = j + 2 := by
    have : 2 ^ 2 ≤ 2 ^ f.exp := Nat.pow_le_pow_right two_pos he
    exact ⟨2 ^ f.exp - 3, by omega⟩
  have hinf : f.infBits = j * 2 ^ f.frac + 2 * 2 ^ f.frac := by rw [FloatFormat.infBits, hj, add_mul]
  have step : ∀ i ≤ 2, f.grid (f.infBits - i) = (2 * 2 ^ f.frac - i : ℕ) * (2 : ℚ) ^ (f.minExp + j) := fun i hi => by
    rw [hinf, Nat.add_sub_assoc (by omega), grid_steps f (Nat.sub_le _ _) (.inr (by omega))]
  refine ⟨by rw [hinf, hB, ← mul_assoc, ← mul_assoc, mul_comm j 2, mul_assoc]; omega,
    (2 : ℚ) ^ (f.minExp + j), by positivity, ?_, ?_⟩
  · have h0 := step 0 (by omega)
    rw [Nat.sub_zero, Nat.sub_zero] at h0
    rw [h0, step 1 (by omega), Nat.cast_sub (by omega)]
    ring
  · rw [step 1 (by omega), step 2 le_rfl, Nat.cast_sub (by omega), Nat.cast_sub (by omega)]
    push_cast
    ring

/-- Rounding passes the largest finite value exactly from half a last place above it on. -/
theorem infBits_le_roundGrid_iff {n d : Nat} (e : Int) (hn : 0 < n) (hd : 0 < d) :
    f.infBits ≤ f.roundGrid n d e ↔
      f.grid (f.infBits - 1) + (f.grid (f.infBits - 1) - f.grid (f.infBits - 2)) / 2 ≤ (n : ℚ) / d * 2 ^ e := by
  obtain ⟨even, u, hu, last, before⟩ := infBits_steps f hf he
  have nearest := roundGrid_nearest f e hf hn hd
  have mono := (grid_strictMono f).monotone
  generalize (n : ℚ) / d * 2 ^ e = x at *
  have half : f.grid (f.infBits - 1) + (f.grid (f.infBits - 1) - f.grid (f.infBits - 2)) / 2 =
      f.grid (f.infBits - 1) + u / 2 := by rw [← before]; ring
  rw [half]
  constructor
  · intro h
    have high : f.grid f.infBits ≤ f.grid (f.roundGrid n d e) := mono h
    obtain ⟨near, -⟩ := nearest (f.infBits - 1)
    by_contra hx
    have hx := not_le.1 hx
    rw [abs_of_pos (by linarith)] at near
    rcases abs_cases (f.grid (f.infBits - 1) - x) with ⟨abs, -⟩ | ⟨abs, -⟩ <;> linarith
  · intro hx
    by_contra h
    have low : f.grid (f.roundGrid n d e) ≤ f.grid (f.infBits - 1) := mono (by omega)
    obtain ⟨near, tie⟩ := nearest f.infBits
    rw [abs_sub_comm, abs_of_pos (by linarith : 0 < x - f.grid (f.roundGrid n d e))] at near tie
    rcases abs_cases (f.grid f.infBits - x) with ⟨abs, -⟩ | ⟨abs, -⟩
    · have tied : f.roundGrid n d e % 2 = 0 := (tie (by linarith)).resolve_left (by omega)
      have same : f.roundGrid n d e = f.infBits - 1 := (grid_strictMono f).injective (by linarith)
      omega
    · linarith

/-- Rounding to nearest even, over the values of the format's own patterns. -/
theorem round_spec {n d : Nat} (e : Int) (hn : 0 < n) (hd : 0 < d) :
    f.round n d e ≤ f.infBits ∧
    (f.round n d e = f.infBits ↔
      (f.unpack (f.infBits - 1)).toRat + ((f.unpack (f.infBits - 1)).toRat - (f.unpack (f.infBits - 2)).toRat) / 2 ≤
        (n : ℚ) / d * 2 ^ e) ∧
    (f.round n d e < f.infBits → ∀ mag < f.infBits,
      |(f.unpack (f.round n d e)).toRat - (n : ℚ) / d * 2 ^ e| ≤ |(f.unpack mag).toRat - (n : ℚ) / d * 2 ^ e| ∧
      (|(f.unpack (f.round n d e)).toRat - (n : ℚ) / d * 2 ^ e| = |(f.unpack mag).toRat - (n : ℚ) / d * 2 ^ e| →
        mag = f.round n d e ∨ f.round n d e % 2 = 0)) := by
  have positive : 0 < f.infBits := by
    have : 2 ^ 2 ≤ 2 ^ f.exp := Nat.pow_le_pow_right two_pos he
    exact Nat.mul_pos (by omega) (by positivity)
  have clipped := round_eq_min f d e hn
  refine ⟨by rw [clipped]; exact min_le_left _ _, ?_, fun inside mag hmag => ?_⟩
  · rw [clipped, min_eq_left_iff, unpack_toRat f (by omega), unpack_toRat f (by omega)]
    exact infBits_le_roundGrid_iff f hf he e hn hd
  · have whole : f.round n d e = f.roundGrid n d e := by omega
    rw [unpack_toRat f inside, unpack_toRat f hmag, whole]
    exact roundGrid_nearest f e hf hn hd mag

end

/-- Settles O26: rounding onto the grid of exponents without end, cut off at the infinity. -/
theorem roundNearestEven : Obligations.RoundNearestEven := by
  intro f hf n d e hn hd
  have sizes : 1 ≤ f.frac ∧ 2 ≤ f.exp := by
    rcases List.mem_pair.1 hf with rfl | rfl <;> decide
  exact round_spec f sizes.1 sizes.2 e hn hd

end Sys2Proof.Machine
end

section
/-! The register file (spec/10_state.md R32 to R49): what a slot reads after a write, what each view makes of it, and how
the moves use both. -/

namespace Sys2Proof.Machine

/-! ### Low words and narrow values -/

theorem extractLsb'_signExtend {n m : Nat} (h : n ≤ m) (x : BitVec n) : (x.signExtend m).extractLsb' 0 n = x := by
  apply BitVec.eq_of_getLsbD_eq
  intro i hi
  have : i < m := by omega
  simp only [BitVec.getLsbD_extractLsb', BitVec.getLsbD_signExtend, Nat.zero_add]
  simp [*]

theorem extractLsb'_setWidth {n m : Nat} (h : n ≤ m) (x : BitVec n) : (x.setWidth m).extractLsb' 0 n = x := by
  apply BitVec.eq_of_getLsbD_eq
  intro i hi
  have : i < m := by omega
  simp [*]

/-- What a narrow value reads back as once it has been widened into a register (R47). -/
theorem narrow_widen (c : Code32) (v : Word32) : narrow c (widen c v) = narrow c v := by
  cases c with
  | Z => exact congrArg (·.setWidth 32) (extractLsb'_setWidth (n := 8) (m := 32) (by decide) _)
  | C => exact congrArg (·.setWidth 32) (extractLsb'_setWidth (n := 16) (m := 32) (by decide) _)
  | B => exact congrArg (·.setWidth 32) (extractLsb'_signExtend (n := 8) (m := 32) (by decide) _)
  | S => exact congrArg (·.setWidth 32) (extractLsb'_signExtend (n := 16) (m := 32) (by decide) _)
  | I | F => rfl

/-- Settles O16. -/
theorem narrowValues : Obligations.NarrowValues := by
  intro n
  have low : ∀ w ≤ 32, ((n.extractLsb' 0 w).setWidth 32).toNat = n.toNat % 2 ^ w := fun w hw => by
    rw [BitVec.toNat_setWidth_of_le hw, BitVec.extractLsb'_toNat, Nat.shiftRight_zero]
  exact ⟨BitVec.truncate_eq_setWidth.symm, rfl, BitVec.truncate_eq_setWidth.symm, rfl, rfl, rfl, low 8 (by decide),
    low 8 (by decide), low 16 (by decide), low 16 (by decide), rfl, rfl⟩

/-! ### Slots -/

theorem slot_eq_ok_iff {a : Activation} {i : Nat} {w : Word64} :
    a.slot i = .ok w ↔ a.regs[i]? = some { word := w, written := true } := by
  unfold Activation.slot
  cases h : a.regs[i]? with
  | none => simp
  | some r =>
    obtain ⟨word, written⟩ := r
    cases written <;> simp

theorem slot_lt {a : Activation} {i : Nat} {w : Word64} (h : a.slot i = .ok w) : i < a.regs.length :=
  (List.getElem?_eq_some_iff.1 (slot_eq_ok_iff.1 h)).1

theorem slot_range {a : Activation} {i : Nat} (h : a.regs.length ≤ i) : a.slot i = .error (.regRange i) := by
  rw [Activation.slot, List.getElem?_eq_none h]

theorem slot_unwritten {a : Activation} {i : Nat} {x : Word64} (h : a.regs[i]? = some { word := x, written := false }) :
    a.slot i = .error (.uninitRead (.slot i)) := by simp [Activation.slot, h]

/-- A slot reads what was last written to it, and the others as before. -/
theorem slot_putSlot_self {a : Activation} {i : Nat} (w : Word64) (h : i < a.regs.length) : (a.putSlot i w).slot i = .ok w :=
  slot_eq_ok_iff.2 (by simp [h])

theorem slot_putSlot_ne (a : Activation) {i j : Nat} (w : Word64) (h : i ≠ j) : (a.putSlot i w).slot j = a.slot j := by
  simp [Activation.slot, h]

theorem slots_putI64 {a : Activation} {i : Nat} (w : Word64) (h : i + 1 < a.regs.length) :
    (a.putI64 i w).slot i = .ok ((w.extractLsb' 0 32).setWidth 64) ∧
      (a.putI64 i w).slot (i + 1) = .ok ((w.extractLsb' 32 32).setWidth 64) := by
  constructor
  · rw [Activation.putI64, slot_putSlot_ne _ _ (by omega), slot_putSlot_self _ (by omega)]
  · exact slot_putSlot_self _ (by simpa using h)

/-! ### Views -/

theorem i32_of_slot {a : Activation} {i : Nat} {w : Word64} (h : a.slot i = .ok w) :
    a.i32 i = .ok (w.extractLsb' 0 32) := by
  rw [Activation.i32, h, ← BitVec.setWidth_eq_extractLsb' (by decide)]; rfl

theorem i64_of_slots {a : Activation} {i : Nat} {lo hi : Word64} (hlo : a.slot i = .ok lo)
    (hhi : a.slot (i + 1) = .ok hi) : a.i64 i = .ok (hi.extractLsb' 0 32 ++ lo.extractLsb' 0 32) := by
  rw [Activation.i64, if_pos (slot_lt hhi), hlo, hhi, ← BitVec.setWidth_eq_extractLsb' (by decide),
    ← BitVec.setWidth_eq_extractLsb' (by decide)]; rfl

theorem i64_error_low {a : Activation} {i : Nat} {f : EngineFault} (hi : i + 1 < a.regs.length)
    (h : a.slot i = .error f) : a.i64 i = .error f := by
  rw [Activation.i64, if_pos hi, h]; rfl

theorem i64_error_high {a : Activation} {i : Nat} {w : Word64} {f : EngineFault} (hi : i + 1 < a.regs.length)
    (hlo : a.slot i = .ok w) (h : a.slot (i + 1) = .error f) : a.i64 i = .error f := by
  rw [Activation.i64, if_pos hi, hlo, h]; rfl

theorem i64_range {a : Activation} {i : Nat} (h : a.regs.length ≤ i + 1) : a.i64 i = .error (.regRange i) := by
  rw [Activation.i64, if_neg (by omega)]

theorem setI32_ok {a : Activation} {i : Nat} (v : Word32) (h : i < a.regs.length) :
    a.setI32 i v = .ok (a.putSlot i (v.signExtend 64)) := if_pos h
theorem setF32_ok {a : Activation} {i : Nat} (v : Word32) (h : i < a.regs.length) :
    a.setF32 i v = .ok (a.putSlot i (v.setWidth 64)) := if_pos h
theorem setI64_ok {a : Activation} {i : Nat} (w : Word64) (h : i + 1 < a.regs.length) :
    a.setI64 i w = .ok (a.putI64 i w) := if_pos h
theorem setRef_ok {a : Activation} {i : Nat} (w : Handle) (h : i < a.regs.length) :
    a.setRef i w = .ok (a.putSlot i w) := if_pos h

/-- A long or double reads back as it was written (R38, R39). -/
theorem i64_putI64 {a : Activation} {i : Nat} (w : Word64) (h : i + 1 < a.regs.length) : (a.putI64 i w).i64 i = .ok w := by
  obtain ⟨lo, hi⟩ := slots_putI64 w h
  rw [i64_of_slots lo hi, extractLsb'_setWidth (by decide), extractLsb'_setWidth (by decide),
    BitVec.extractLsb'_append_extractLsb']

/-- `write`, one of the three ways to write a slot, stores a word whose low half is `low` (R37, R41, R45). -/
def WritesLow (r : Nat) (write : Activation → Checked Activation) (low : Word32) : Prop :=
  ∃ w : Word64, w.extractLsb' 0 32 = low ∧ ∀ b : Activation, r < b.regs.length → write b = .ok (b.putSlot r w)

theorem writesLow_setI32 (r : Nat) (v : Word32) : WritesLow r (·.setI32 r v) v :=
  ⟨v.signExtend 64, extractLsb'_signExtend (by decide) v, fun _ => setI32_ok v⟩
theorem writesLow_setF32 (r : Nat) (v : Word32) : WritesLow r (·.setF32 r v) v :=
  ⟨v.setWidth 64, extractLsb'_setWidth (by decide) v, fun _ => setF32_ok v⟩
theorem writesLow_setRef (r : Nat) (h : Handle) : WritesLow r (·.setRef r h) (h.extractLsb' 0 32) :=
  ⟨h, rfl, fun _ => setRef_ok h⟩

/-- A pair reads as the low words of its slots, in whichever order they were written (R38). -/
theorem i64_of_writesLow {a : Activation} {i : Nat} {low high : Activation → Checked Activation} {x y : Word32}
    (hlow : WritesLow i low x) (hhigh : WritesLow (i + 1) high y) (hi : i + 1 < a.regs.length) :
    ((low a).bind high).bind (·.i64 i) = .ok (y ++ x) ∧ ((high a).bind low).bind (·.i64 i) = .ok (y ++ x) := by
  obtain ⟨lo, rfl, write⟩ := hlow
  obtain ⟨up, rfl, write'⟩ := hhigh
  rw [write a (by omega), write' a hi]
  simp only [Except.bind]
  rw [write' _ (by simpa using hi), write _ (by simp; omega)]
  constructor
  · refine i64_of_slots ?_ (slot_putSlot_self _ (by simpa using hi))
    rw [slot_putSlot_ne _ _ (by omega), slot_putSlot_self _ (by omega)]
  · refine i64_of_slots (slot_putSlot_self _ (by simp; omega)) ?_
    rw [slot_putSlot_ne _ _ (by omega), slot_putSlot_self _ hi]

/-- Settles O14: each write stores one word in a slot, which each view reads back. -/
theorem registerViews : Obligations.RegisterViews := by
  intro a i v u w h g
  refine ⟨fun hi => ?_, fun hi => ?_, fun hi => ?_⟩
  · have stored : ∀ x, (a.putSlot i x).slot i = .ok x := fun x => slot_putSlot_self x hi
    simp only [setI32_ok _ hi, setF32_ok _ hi, setRef_ok _ hi, Except.bind, i32_of_slot (stored _),
      extractLsb'_signExtend (show 32 ≤ 64 by decide), extractLsb'_setWidth (show 32 ≤ 64 by decide), true_and, and_true]
    exact ⟨stored _, stored _, stored _⟩
  · obtain ⟨lo, up⟩ := slots_putI64 w hi
    simp only [setI64_ok w hi, Except.bind, i64_putI64 w hi, i32_of_slot lo, i32_of_slot up,
      extractLsb'_setWidth (show 32 ≤ 64 by decide), true_and]
    exact ⟨lo, up⟩
  · have ways : ∀ (r : Nat) (x : Word32) (y : Handle),
        ∀ p ∈ [(fun b : Activation => b.setI32 r x, x), (fun b => b.setF32 r x, x),
          (fun b => b.setRef r y, y.extractLsb' 0 32)], WritesLow r p.1 p.2 := fun r x y => by
      simp only [List.forall_mem_cons]
      exact ⟨writesLow_setI32 r x, writesLow_setF32 r x, writesLow_setRef r y, List.forall_mem_nil _⟩
    exact fun low hlow high hhigh => i64_of_writesLow (ways i v h low hlow) (ways (i + 1) u g high hhigh) hi

/-! ### Handlers that read and write -/

section
variable {α β : Type} {x : Handler α} {f : α → Handler β} {c d : Ctx}

theorem handler_bind_ok {v : α} (h : x c = .ok v d) : (x >>= f) c = f v d := by rw [handler_bind, h]

theorem handler_bind_error {e : Ended} (h : x c = .error e d) : (x >>= f) c = .error e d := by rw [handler_bind, h]

end

section
variable {i : Nat} {c : Ctx}

theorem writeI32_ok (v : Word32) (h : i < c.top.regs.length) :
    writeI32 i v c = .ok () { c with top := c.top.putI32 i v } := by
  rw [writeI32_run, if_pos h]
theorem writeF32_ok (v : Word32) (h : i < c.top.regs.length) :
    writeF32 i v c = .ok () { c with top := c.top.putF32 i v } := by
  rw [writeF32_run, if_pos h]
theorem writeI64_ok (v : Word64) (h : i + 1 < c.top.regs.length) :
    writeI64 i v c = .ok () { c with top := c.top.putI64 i v } := by
  rw [writeI64_run, if_pos h]
theorem writeRef_ok (v : Handle) (h : i < c.top.regs.length) :
    writeRef i v c = .ok () { c with top := c.top.putSlot i v } := by
  rw [writeRef_run, if_pos h]

end

/-! ### Moves (spec/41_move_const.md) -/

section
variable {s : State} {a : Activation} {rest : List Activation} {d r n : Nat}

/-- A handler that goes on as one that changes only the top activation. -/
theorem runTop_becomes {h : Handler Unit} {b : Activation} (hs : s.stack = a :: rest)
    (hc : h (Ctx.enter s a rest) = .ok () { Ctx.enter s a rest with top := b }) : runTop h s = becomes s rest b :=
  runTop_ok hs hc

theorem moveI32_becomes {v : Word32} (hs : s.stack = a :: rest) (hr : a.i32 r = .ok v) (hd : d < a.regs.length) :
    runTop (moveI32 d r n) s = becomes s rest (a.with32 d v n) :=
  runTop_becomes hs ((handler_bind_ok (readI32_ok hr)).trans (handler_bind_ok (writeI32_ok v hd)))

theorem moveI64_becomes {v : Word64} (hs : s.stack = a :: rest) (hr : a.i64 r = .ok v) (hd : d + 1 < a.regs.length) :
    runTop (moveI64 d r n) s = becomes s rest (a.with64 d v n) :=
  runTop_becomes hs ((handler_bind_ok (readI64_ok hr)).trans (handler_bind_ok (writeI64_ok v hd)))

theorem moveRef_becomes {h : Handle} (hs : s.stack = a :: rest) (hr : a.ref r = .ok h) (hd : d < a.regs.length) :
    runTop (moveRef d r n) s = becomes s rest (a.withRef d h n) :=
  runTop_becomes hs ((handler_bind_ok (readRef_ok hr)).trans (handler_bind_ok (writeRef_ok h hd)))

end

/-- Settles O17: the nine moves are three handlers, each of which reads its source before it writes. -/
theorem movesComplete : Obligations.MovesComplete := fun _ _ _ hs =>
  ⟨runTop_becomes hs rfl,
    fun _ _ _ => moveI32_becomes hs, fun _ _ _ => moveI32_becomes hs, fun _ _ _ => moveI32_becomes hs,
    fun _ _ _ => moveI64_becomes hs, fun _ _ _ => moveI64_becomes hs, fun _ _ _ => moveI64_becomes hs,
    fun _ _ _ => moveRef_becomes hs, fun _ _ _ => moveRef_becomes hs, fun _ _ _ => moveRef_becomes hs⟩

/-! ### Parameter slots (R49, R562) -/

/-- A typed value as a register gives it back: a narrow one as its low bits (R47). -/
def TypedValue.narrowed : TypedValue → TypedValue
  | .w32 c bits => .w32 c (narrow c bits)
  | v => v

/-- What a view reads rests on the slots it names. -/
theorem typed_congr {a b : Activation} {c : TypeCode} {p : Nat} (hlen : b.regs.length = a.regs.length)
    (h : ∀ i < p + c.width, b.regs[i]? = a.regs[i]?) : b.typed c p = a.typed c p := by
  have slots : ∀ i < p + c.width, b.slot i = a.slot i := fun i hi => by rw [Activation.slot, h i hi]; rfl
  cases c with
  | w32 k => simp only [Activation.typed, Activation.i32, slots p (Nat.lt_add_of_pos_right Nat.one_pos)]
  | w64 k => simp only [Activation.typed, Activation.i64, hlen, slots p (Nat.lt_add_of_pos_right Nat.two_pos),
      slots (p + 1) (Nat.lt_succ_self _)]
  | L => simp only [Activation.typed, Activation.ref, slots p (Nat.lt_add_of_pos_right Nat.one_pos)]

/-- What one slot holds of a narrow argument, and what its code makes of it. -/
theorem putArg_w32 {a : Activation} {p : Nat} (c : Code32) (bits : Word32) (h : p < a.regs.length) :
    ∃ w, a.putArg p (.w32 c bits) = .ok (a.putSlot p w, p + 1) ∧ narrow c (w.extractLsb' 0 32) = narrow c bits := by
  have widened : c ≠ .F → ∃ w, a.putArg p (.w32 c bits) = .ok (a.putSlot p w, p + 1) ∧
      narrow c (w.extractLsb' 0 32) = narrow c bits := fun hc => by
    refine ⟨(widen c bits).signExtend 64, ?_, ?_⟩
    · rw [Activation.putArg, setI32_ok _ h]
      · rfl
      · exact hc
    · rw [extractLsb'_signExtend (by decide), narrow_widen]
  cases c with
  | F =>
    refine ⟨bits.setWidth 64, ?_, extractLsb'_setWidth (by decide) bits⟩
    rw [Activation.putArg, setF32_ok bits h]
    rfl
  | I | Z | B | S | C => exact widened (by decide)

/-- One argument: it is written where there is room, reads back by its own code, and leaves the slots below (R562). -/
theorem putArg_spec {a : Activation} {p : Nat} {v : TypedValue} (h : p + v.code.width ≤ a.regs.length) :
    ∃ regs, a.putArg p v = .ok ({ a with regs := regs }, p + v.code.width) ∧ regs.length = a.regs.length ∧
      (∀ i < p, regs[i]? = a.regs[i]?) ∧ Activation.typed { a with regs := regs } v.code p = .ok v.narrowed := by
  have below : ∀ {x : Slot} {q : Nat} (l : List Slot), p ≤ q → ∀ i < p, (l.set q x)[i]? = l[i]? := fun _ hq _ hi =>
    List.getElem?_set_ne (by omega)
  cases v with
  | w32 c bits =>
    obtain ⟨w, put, narrowed⟩ := putArg_w32 c bits h
    refine ⟨_, put, by simp, below _ le_rfl, ?_⟩
    have read := i32_of_slot (slot_putSlot_self (a := a) w h)
    exact (congrArg (Except.map _) read).trans (congrArg (fun v => Except.ok (TypedValue.w32 c v)) narrowed)
  | w64 c bits =>
    refine ⟨_, congrArg (Except.map _) (setI64_ok bits h), by simp, fun i hi => ?_, ?_⟩
    · exact (below _ (Nat.le_succ p) i hi).trans (below _ le_rfl i hi)
    · exact congrArg (Except.map _) (i64_putI64 bits h)
  | ref g =>
    exact ⟨_, congrArg (Except.map _) (setRef_ok g h), by simp, below _ le_rfl,
      congrArg (Except.map _) (slot_putSlot_self g h)⟩

/-- The registers of an argument list: those of the first argument, then those of the others. -/
theorem range'_width (p k : Nat) (c : TypeCode) : ∃ rs, List.range' p (c.width + k) = p :: rs ∧
    rs.drop (c.width - 1) = List.range' (p + c.width) k := by
  cases c with
  | w64 c => exact ⟨List.range' (p + 1) (k + 1), by rw [add_comm]; rfl, rfl⟩
  | w32 c | L => exact ⟨List.range' (p + 1) k, by rw [add_comm]; rfl, rfl⟩

/-- An argument list: every argument reads back by its own code from its slot on, and the slots below stay (R49, R562). -/
theorem putArgs_spec (args : List TypedValue) : ∀ {a : Activation} {p : Nat}, p + argWords args ≤ a.regs.length →
    ∃ regs, a.putArgs p args = .ok { a with regs := regs } ∧ regs.length = a.regs.length ∧
      (∀ i < p, regs[i]? = a.regs[i]?) ∧
      Activation.params { a with regs := regs } (args.map TypedValue.code) (List.range' p (argWords args)) =
        .ok (args.map TypedValue.narrowed) := by
  induction args with
  | nil => exact fun {a p} _ => ⟨a.regs, rfl, rfl, fun _ _ => rfl, rfl⟩
  | cons v vs ih =>
    intro a p h
    have words : argWords (v :: vs) = v.code.width + argWords vs := by simp [argWords]
    rw [words] at h ⊢
    obtain ⟨regs₁, put, length₁, below₁, read⟩ := putArg_spec (a := a) (p := p) (v := v) (by omega)
    obtain ⟨regs, puts, length, below, reads⟩ :=
      ih (a := { a with regs := regs₁ }) (p := p + v.code.width) (by dsimp only; omega)
    obtain ⟨rs, first, others⟩ := range'_width p (argWords vs) v.code
    have same : Activation.typed { a with regs := regs } v.code p = .ok v.narrowed :=
      (typed_congr (a := { a with regs := regs₁ }) length below).trans read
    refine ⟨regs, ?_, length.trans length₁, fun i hi => (below i (by omega)).trans (below₁ i hi), ?_⟩
    · rw [Activation.putArgs, put]
      exact puts
    · rw [first, List.map_cons, Activation.params, same, others]
      exact congrArg (fun l => l >>= fun vs => .ok (v.narrowed :: vs)) reads

/-- Settles O11: the arguments written one after another into the fresh activation's last slots. -/
theorem parameterSlots : Obligations.ParameterSlots := by
  intro m args hwords hnins
  obtain ⟨regs, start, length, below, read⟩ :=
    putArgs_spec args (a := Activation.fresh m) (p := m.nreg - m.nins) (by simp; omega)
  refine ⟨_, start, rfl, rfl, rfl, rfl, rfl, rfl, by simp [length], fun i hi => ⟨0#64, ?_⟩, ?_⟩
  · rw [below i hi, Activation.fresh_regs, List.getElem?_replicate_of_lt (by omega)]
  · rw [hwords] at read
    rw [← List.range'_eq_map_range]
    exact read.trans (congrArg Except.ok (List.map_congr_left fun v _ => by cases v <;> rfl))

end Sys2Proof.Machine
end

section
/-! The engine's stops (spec/10_state.md R58, spec/40_dispatch.md R170). -/

namespace Sys2Proof.Machine

theorem step_of_fault {s : State} {f : EngineFault} (h : s.fault = some f) : step s = .fault (.engineStopped f) := by
  rw [step, h]

/-- Settles O6. -/
theorem faultStopsEngine : Obligations.FaultStopsEngine :=
  ⟨rfl, fun _ _ => step_of_fault, fun _ _ h => (step_cases h).1⟩

end Sys2Proof.Machine
end

section
/-! The checks of registers at the instructions (spec/10_state.md R35, R48, spec/90_conflicts.md R642): the parts of a
handler that read, that only ask, that leave the registers, and that write. -/

namespace Sys2Proof.Machine

/-! ### A longer register file -/

/-- The activation with `n` more slots, unwritten. -/
def Activation.longer (a : Activation) (n : Nat) : Activation :=
  { a with regs := a.regs ++ List.replicate n { word := 0#64, written := false } }

/-- The context with `n` more slots in its activation. -/
def Ctx.longer (c : Ctx) (n : Nat) : Ctx := { c with top := c.top.longer n }

theorem Ctx.longer_zero (c : Ctx) : c.longer 0 = c := by simp [Ctx.longer, Activation.longer]

theorem longer_length (a : Activation) (n : Nat) : (a.longer n).regs.length = a.regs.length + n := by
  simp [Activation.longer]

/-- No slot past the end of the shorter file is written. -/
theorem longer_unwritten {a : Activation} {n r : Nat} {x : Slot} (hr : a.regs.length ≤ r)
    (hx : (a.longer n).regs[r]? = some x) : x.written = false := by
  rw [Activation.longer, List.getElem?_append_right hr] at hx
  rw [List.eq_of_mem_replicate (List.mem_of_getElem? hx)]

theorem slot_of_longer {a : Activation} {n i : Nat} {w : Word64} (h : (a.longer n).slot i = .ok w) : a.slot i = .ok w := by
  rw [slot_eq_ok_iff] at h ⊢
  have inside : i < a.regs.length := by
    by_contra past
    cases longer_unwritten (not_lt.1 past) h
  rwa [Activation.longer, List.getElem?_append_left inside] at h

theorem i32_of_longer {a : Activation} {n i : Nat} {v : Word32} (h : (a.longer n).i32 i = .ok v) : a.i32 i = .ok v := by
  obtain ⟨w, hw, rfl⟩ := checked_map_ok h
  rw [Activation.i32, slot_of_longer hw]
  rfl

theorem slots_of_i64 {a : Activation} {i : Nat} {v : Word64} (h : a.i64 i = .ok v) :
    ∃ lo hi, a.slot i = .ok lo ∧ a.slot (i + 1) = .ok hi := by
  by_cases pair : i + 1 < a.regs.length
  · cases hlo : a.slot i with
    | error f => cases (i64_error_low pair hlo).symm.trans h
    | ok lo =>
      cases hhi : a.slot (i + 1) with
      | error f => cases (i64_error_high pair hlo hhi).symm.trans h
      | ok hi => exact ⟨lo, hi, rfl, rfl⟩
  · cases (i64_range (not_lt.1 pair)).symm.trans h

theorem i64_of_longer {a : Activation} {n i : Nat} {v : Word64} (h : (a.longer n).i64 i = .ok v) : a.i64 i = .ok v := by
  obtain ⟨lo, hi, hlo, hhi⟩ := slots_of_i64 h
  rw [← h, i64_of_slots hlo hhi, i64_of_slots (slot_of_longer hlo) (slot_of_longer hhi)]

theorem typed_of_longer {a : Activation} {n i : Nat} {t : TypeCode} {v : TypedValue} (h : (a.longer n).typed t i = .ok v) :
    a.typed t i = .ok v := by
  cases t with
  | w32 k =>
    obtain ⟨w, hw, rfl⟩ := checked_map_ok h
    rw [Activation.typed, i32_of_longer hw]; rfl
  | w64 k =>
    obtain ⟨w, hw, rfl⟩ := checked_map_ok h
    rw [Activation.typed, i64_of_longer hw]; rfl
  | L =>
    obtain ⟨w, hw, rfl⟩ := checked_map_ok h
    rw [Activation.typed, Activation.ref, slot_of_longer hw]; rfl

/-! ### Parts that read -/

/-- `read` reads the source `x` as `view` says: its check is the source's (R35, R48), and what it finds in a longer register
file it finds in this one. -/
structure ReadsAs {α : Type} (x : Source) (read : Handler α) (view : Activation → Checked α) : Prop where
  run : ∀ c, read c = checked (view c.top) c
  check : ∀ a : Activation, a.check x = (view a).map fun _ => ()
  longer : ∀ {a : Activation} {n : Nat} {v : α}, view (a.longer n) = .ok v → view a = .ok v

/-- The source that a value of a code is read from (R506). -/
def TypeCode.source (t : TypeCode) (r : Nat) : Source :=
  match t with
  | .w32 _ => .i32 r
  | .w64 _ => .i64 r
  | .L => .ref r

theorem readsAs_i32 (r : Nat) : ReadsAs (.i32 r) (readI32 r) (·.i32 r) := ⟨readI32_run r, fun _ => rfl, i32_of_longer⟩
theorem readsAs_i64 (r : Nat) : ReadsAs (.i64 r) (readI64 r) (·.i64 r) := ⟨readI64_run r, fun _ => rfl, i64_of_longer⟩
theorem readsAs_ref (r : Nat) : ReadsAs (.ref r) (readRef r) (·.ref r) := ⟨readRef_run r, fun _ => rfl, slot_of_longer⟩

theorem checked_map_forget {α β : Type} (x : Checked α) (f : α → β) :
    (x.map fun _ => ()) = (x.map f).map fun _ => () := by
  cases x <;> rfl

theorem readsAs_typed (t : TypeCode) (r : Nat) : ReadsAs (t.source r) (readTyped t r) (·.typed t r) := by
  refine ⟨fun _ => rfl, fun a => ?_, typed_of_longer⟩
  cases t with
  | w32 k => exact checked_map_forget (a.i32 r) _
  | w64 k => exact checked_map_forget (a.i64 r) _
  | L => exact checked_map_forget (a.ref r) _

/-! ### Parts that ask -/

section
variable {α β : Type} {q : Prop}

/-- A part that changes nothing but the ports, and goes on in a longer register file only as it does in this one. Where it
ends for want of an answer, `q` holds. -/
structure Asks (q : Prop) (x : Handler α) : Prop where
  longer : ∀ {n : Nat} {c d : Ctx} {v : α}, x (c.longer n) = .ok v d →
    ∃ p, d = { c.longer n with ports := p } ∧ x c = .ok v { c with ports := p }
  waits : ∀ {c d : Ctx}, x c = .error .unanswered d → q

theorem asks_pure (v : α) : Asks q (pure v : Handler α) :=
  ⟨fun {_ c _ _} h => ⟨c.ports, by cases h; exact ⟨rfl, rfl⟩⟩, nofun⟩

theorem asks_faultWith (f : EngineFault) : Asks q (faultWith f : Handler α) := ⟨nofun, nofun⟩

theorem asks_ask (m : Port α) : Asks q (ask m) :=
  ⟨fun {_ c _ _} h => ⟨(m c.ports).2, by cases h; exact ⟨rfl, rfl⟩⟩, nofun⟩

theorem asks_bind {x : Handler α} {f : α → Handler β} (hx : Asks q x) (hf : ∀ v, Asks q (f v)) :
    Asks q (x >>= f) := by
  constructor
  · intro n c d v h
    cases hr : x (c.longer n) with
    | error e d => rw [handler_bind_error hr] at h; cases h
    | ok u e =>
      rw [handler_bind_ok hr] at h
      obtain ⟨p, rfl, hc⟩ := hx.longer hr
      rw [handler_bind_ok hc]
      exact (hf u).longer (c := { c with ports := p }) h
  · intro c d h
    cases hr : x c with
    | error e d => rw [handler_bind_error hr] at h; cases h; exact hx.waits hr
    | ok u e => rw [handler_bind_ok hr] at h; exact (hf u).waits h

theorem asks_ite {r : Prop} [Decidable r] {x y : Handler α} (hx : Asks q x) (hy : Asks q y) :
    Asks q (if r then x else y) := by
  split
  · exact hx
  · exact hy

theorem asks_raise (x : Cause) : Asks q (raise x : Handler α) := ⟨nofun, nofun⟩

theorem asks_orResolution (r : Reply α) : Asks q (orResolution r) := by
  cases r with
  | ok v => exact asks_pure v
  | fails e => exact asks_raise _

theorem asks_orHost (r : Reply α) : Asks q (orHost r) := by
  cases r with
  | ok v => exact asks_pure v
  | fails e => exact asks_raise _

theorem ReadsAs.asks {x : Source} {read : Handler α} {view : Activation → Checked α} (h : ReadsAs x read view) :
    Asks q read := by
  constructor
  · intro n c d v hr
    rw [h.run] at hr ⊢
    cases hv : view (c.longer n).top with
    | error f => rw [hv] at hr; cases hr
    | ok w =>
      rw [hv] at hr
      cases hr
      exact ⟨c.ports, rfl, by rw [h.longer hv]; rfl⟩
  · intro c d hr
    rw [h.run] at hr
    cases hv : view c.top <;> rw [hv] at hr <;> cases hr

end

theorem readRV_run (c : Ctx) :
    readRV c = if c.top.rvw then .ok c.top.rv c else .error (.faulted (.uninitRead .rv)) c := by
  rw [readRV, handler_bind_ok (getTop_run c), handler_ite]
  rfl

/-- RV is no register (R55). -/
theorem asks_readRV {q : Prop} : Asks q readRV := by
  constructor
  · intro n c d v h
    have run : readRV (c.longer n) = if c.top.rvw then .ok c.top.rv (c.longer n) else _ := readRV_run (c.longer n)
    rw [run] at h
    rw [readRV_run]
    split at h <;> cases h
    exact ⟨c.ports, rfl, if_pos ‹_›⟩
  · intro c d h
    rw [readRV_run] at h
    split at h <;> cases h

/-! ### Parts that leave the registers -/

/-- An ending from `c`: where the handler goes on the registers are as they were, and where it ends for want of an answer,
`q` holds. -/
def LeavesFrom {α : Type} (q : Prop) (c : Ctx) : EStateM.Result Ended Ctx α → Prop
  | .ok _ d => d.top.regs = c.top.regs
  | .error e _ => e = .unanswered → q

/-- A part that writes no register. -/
def Leaves {α : Type} (q : Prop) (x : Handler α) : Prop := ∀ c, LeavesFrom q c (x c)

section
variable {α β : Type} {q : Prop}

theorem Asks.leaves {x : Handler α} (h : Asks q x) : Leaves q x := fun c => by
  cases hr : x c with
  | ok v d =>
    rw [← c.longer_zero] at hr
    obtain ⟨p, rfl, -⟩ := h.longer hr
    rw [c.longer_zero]
    rfl
  | error e d => exact fun he => h.waits (he ▸ hr)

theorem leaves_bind {x : Handler α} {f : α → Handler β} (hx : Leaves q x) (hf : ∀ v, Leaves q (f v)) :
    Leaves q (x >>= f) := fun c => by
  have h := hx c
  cases hr : x c with
  | ok v d =>
    rw [hr] at h
    rw [handler_bind_ok hr]
    have h' := hf v d
    cases hr' : f v d with
    | ok w e => rw [hr'] at h'; exact Eq.trans h' h
    | error e d => rw [hr'] at h'; exact h'
  | error e d =>
    rw [hr] at h
    rw [handler_bind_error hr]
    exact h

theorem leaves_ite {r : Prop} [Decidable r] {x y : Handler α} (hx : Leaves q x) (hy : Leaves q y) :
    Leaves q (if r then x else y) := by
  split
  · exact hx
  · exact hy

theorem leaves_pure (v : α) : Leaves q (pure v : Handler α) := fun _ => rfl
theorem leaves_getTop : Leaves q getTop := fun _ => rfl
theorem leaves_faultWith (f : EngineFault) : Leaves q (faultWith f : Handler α) := fun _ => nofun
theorem leaves_raise (x : Cause) : Leaves q (raise x : Handler α) := (asks_raise x).leaves
theorem leaves_ask (m : Port α) : Leaves q (ask m) := (asks_ask m).leaves
theorem leaves_checked (x : Checked α) : Leaves q (checked x) := fun _ => by
  cases x with
  | ok v => exact rfl
  | error f => exact nofun

/-- A change of the top activation that is none of its registers. -/
theorem leaves_update_then {g : Activation → Activation} {k : Activation → Handler β} (hk : ∀ a, Leaves q (k a))
    (hg : ∀ a, (g a).regs = a.regs := by intro a; rfl) :
    Leaves q (getTop >>= fun a => setTop (g a) >>= fun _ => k a) := fun c => by
  have h := hk c.top { c with top := g c.top }
  rw [handler_bind_ok (getTop_run c), handler_bind_ok (setTop_run _ c)]
  cases hr : k c.top { c with top := g c.top } with
  | ok v d => rw [hr] at h; exact Eq.trans h (hg c.top)
  | error e d => rw [hr] at h; exact h

theorem leaves_update {g : Activation → Activation} (hg : ∀ a, (g a).regs = a.regs) :
    Leaves q (getTop >>= fun a => setTop (g a)) := fun c => hg c.top

theorem leaves_pushCallee (b : Activation) : Leaves q (pushCallee b) := fun _ => rfl

theorem leaves_advance (n : Nat) : Leaves q (advance n) := leaves_update fun _ => rfl

theorem leaves_jump (off : Int) : Leaves q (jump off) := fun c => by
  rw [jump_run]
  split
  · exact rfl
  · exact nofun

end

/-! ### The checks of a handler -/

/-- Wherever a handler would write past the end of the register file, were the file longer, it faults F6 of its destination
after the same transactions and draws (R35). -/
def FaultsPastEnd (dsts : List Nat) (h : Handler Unit) : Prop :=
  ∀ n c e r x, h (Ctx.longer c n) = .ok () e → c.top.regs.length ≤ r → e.top.regs[r]? = some x → x.written = true →
    ∃ d, dsts.head? = some d ∧ h c = .error (.faulted (.regRange d)) { c with ports := e.ports }

/-- The register checks of a handler that reads the sources `srcs`, does nothing else than read and write where `only` says
so, and writes the registers `dsts` at most (R35, R48); and where it ends for want of an answer, `q` holds. -/
structure Handled (q : Prop) (srcs : List Source) (only : Bool) (dsts : List Nat) (h : Handler Unit) : Prop where
  /-- The fault of the first source that is not readable. -/
  sources : ∀ c f, c.top.checkAll srcs = .error f → h c = .error (.faulted f) c
  /-- F6 of the destination. -/
  overflow : only = true → ∀ c d, c.top.checkAll srcs = .ok () → dsts.head? = some d →
    (∃ r ∈ dsts, c.top.regs.length ≤ r) → h c = .error (.faulted (.regRange d)) c
  pastEnd : FaultsPastEnd dsts h
  waits : ∀ c d, h c = .error .unanswered d → q

section
variable {α : Type} {q : Prop} {srcs : List Source} {only : Bool} {dsts : List Nat}

theorem handled_read {x : Source} {read : Handler α} {view : Activation → Checked α} {f : α → Handler Unit}
    (hr : ReadsAs x read view) (hf : ∀ v, Handled q srcs only dsts (f v)) :
    Handled q (x :: srcs) only dsts (read >>= f) := by
  have readable : ∀ {c v}, view c.top = .ok v →
      read c = .ok v c ∧ c.top.checkAll (x :: srcs) = c.top.checkAll srcs := fun {c v} hv =>
    ⟨by rw [hr.run, hv, checked_ok], by rw [Activation.checkAll, hr.check, hv]; rfl⟩
  have unreadable : ∀ {c f}, view c.top = .error f →
      read c = .error (.faulted f) c ∧ c.top.checkAll (x :: srcs) = .error f := fun {c v} hv =>
    ⟨by rw [hr.run, hv, checked_error], by rw [Activation.checkAll, hr.check, hv]; rfl⟩
  refine ⟨fun c g hg => ?_, fun ho c d hs hd past => ?_, fun n c e r x he hr' hx hw => ?_, fun c d hd => ?_⟩
  · cases hv : view c.top with
    | ok v =>
      rw [(readable hv).2] at hg
      rw [handler_bind_ok (readable hv).1]
      exact (hf v).sources c g hg
    | error f =>
      rw [(unreadable hv).2] at hg
      cases hg
      exact handler_bind_error (unreadable hv).1
  · cases hv : view c.top with
    | ok v =>
      rw [(readable hv).2] at hs
      rw [handler_bind_ok (readable hv).1]
      exact (hf v).overflow ho c d hs hd past
    | error f => rw [(unreadable hv).2] at hs; cases hs
  · cases hl : read (c.longer n) with
    | error g d => rw [handler_bind_error hl] at he; cases he
    | ok v d =>
      rw [handler_bind_ok hl] at he
      obtain ⟨p, rfl, hc⟩ := (hr.asks (q := q)).longer hl
      rw [handler_bind_ok hc]
      exact (hf v).pastEnd n { c with ports := p } e r x he hr' hx hw
  · cases hv : view c.top with
    | ok v => rw [handler_bind_ok (readable hv).1] at hd; exact (hf v).waits c d hd
    | error f => rw [handler_bind_error (unreadable hv).1] at hd; cases hd

/-- What is left of a handler once its sources are read, when it does more than write its result. -/
theorem handled_rest {h : Handler Unit} (pastEnd : FaultsPastEnd dsts h) (waits : ∀ c d, h c = .error .unanswered d → q) :
    Handled q [] false dsts h :=
  ⟨fun _ _ hf => (nomatch hf), fun ho => absurd ho Bool.false_ne_true, pastEnd, waits⟩

theorem handled_asks {x : Handler α} {f : α → Handler Unit} (hx : Asks q x) (hf : ∀ v, Handled q [] false dsts (f v)) :
    Handled q [] false dsts (x >>= f) := by
  refine handled_rest (fun n c e r y he hr hy hw => ?_) fun c d hd => ?_
  · cases hl : x (c.longer n) with
    | error g d => rw [handler_bind_error hl] at he; cases he
    | ok v d =>
      rw [handler_bind_ok hl] at he
      obtain ⟨p, rfl, hc⟩ := hx.longer hl
      rw [handler_bind_ok hc]
      exact (hf v).pastEnd n { c with ports := p } e r y he hr hy hw
  · cases hl : x c with
    | ok v d => rw [handler_bind_ok hl] at hd; exact (hf v).waits _ _ hd
    | error g d => rw [handler_bind_error hl] at hd; cases hd; exact hx.waits hl

/-- A handler that writes no register writes none past the end. -/
theorem handled_leaves {h : Handler Unit} (hh : Leaves q h) : Handled q [] false dsts h := by
  refine handled_rest (fun n c e r x he hr hx hw => ?_) fun c d hd => ?_
  · have regs := hh (c.longer n)
    rw [he] at regs
    rw [show e.top.regs = _ from regs] at hx
    exact absurd hw (by simp [longer_unwritten hr hx])
  · have waits := hh c
    rw [hd] at waits
    exact waits rfl

theorem handled_ite {r : Prop} [Decidable r] {x y : Handler Unit} (hx : Handled q srcs only dsts x)
    (hy : Handled q srcs only dsts y) : Handled q srcs only dsts (if r then x else y) := by
  split
  · exact hx
  · exact hy

theorem handled_raise (x : Cause) : Handled q [] false dsts (raise x) := handled_leaves (leaves_raise x)

/-- A look at the top activation that does not tell a longer register file from this one. -/
theorem handled_getTop {f : Activation → Handler Unit} (longer : ∀ a n, f (Activation.longer a n) = f a)
    (hf : ∀ a, Handled q [] false dsts (f a)) : Handled q [] false dsts (getTop >>= f) := by
  refine handled_rest (fun n c e r x he => ?_) fun c d hd => ?_
  · rw [handler_bind_ok (getTop_run _)] at he ⊢
    rw [Ctx.longer, longer] at he
    exact (hf c.top).pastEnd n c e r x he
  · rw [handler_bind_ok (getTop_run _)] at hd
    exact (hf c.top).waits c d hd

/-- `w` writes slots up to `last` of the top activation, the first of them `d`, or faults F6. -/
structure Writes (d last : Nat) (w : Handler Unit) (put : Activation → Activation) : Prop where
  run : ∀ c, w c = if last < c.top.regs.length then .ok () { c with top := put c.top }
    else .error (.faulted (.regRange d)) c
  above : ∀ (a : Activation) (r : Nat), last < r → (put a).regs[r]? = a.regs[r]?

theorem writes_i32 (d : Nat) (v : Word32) : Writes d d (writeI32 d v) (·.putI32 d v) :=
  ⟨writeI32_run d v, fun _ _ hr => List.getElem?_set_ne hr.ne⟩
theorem writes_f32 (d : Nat) (v : Word32) : Writes d d (writeF32 d v) (·.putF32 d v) :=
  ⟨writeF32_run d v, fun _ _ hr => List.getElem?_set_ne hr.ne⟩
theorem writes_ref (d : Nat) (h : Handle) : Writes d d (writeRef d h) (·.putSlot d h) :=
  ⟨writeRef_run d h, fun _ _ hr => List.getElem?_set_ne hr.ne⟩
theorem writes_i64 (d : Nat) (v : Word64) : Writes d (d + 1) (writeI64 d v) (·.putI64 d v) :=
  ⟨writeI64_run d v, fun _ _ hr =>
    (List.getElem?_set_ne hr.ne).trans (List.getElem?_set_ne ((Nat.lt_succ_self d).trans hr).ne)⟩

/-- What comes after the write: it always goes on, and changes neither registers nor ports. -/
def Closes (k : Handler Unit) : Prop := ∀ c, ∃ a, k c = .ok () { c with top := a } ∧ a.regs = c.top.regs

theorem closes_advance (n : Nat) : Closes (advance n) := fun c => ⟨c.top.advance n, rfl, rfl⟩

/-- The last parts of a handler that writes a register: where the slots lie in the file, the longer one is written below
the end of this one; else this one faults before anything else. -/
theorem handled_write_then {d last : Nat} {w k : Handler Unit} {put : Activation → Activation} (hw : Writes d last w put)
    (hk : Closes k) (head : dsts.head? = some d) (within : only = true → ∀ r ∈ dsts, r ≤ last) :
    Handled q [] only dsts (w >>= fun _ => k) := by
  have faults : ∀ {c : Ctx}, c.top.regs.length ≤ last → (w >>= fun _ => k) c = .error (.faulted (.regRange d)) c :=
    fun past => handler_bind_error (by rw [hw.run, if_neg (not_lt.2 past)])
  have goesOn : ∀ {c : Ctx}, last < c.top.regs.length → ∃ a, (w >>= fun _ => k) c = .ok () { c with top := a } ∧
      a.regs = (put c.top).regs := fun {c} inside => by
    rw [handler_bind_ok (by rw [hw.run, if_pos inside])]
    exact hk { c with top := put c.top }
  refine ⟨fun _ _ hf => (nomatch hf), fun ho c i _ hi ⟨r, hr, past⟩ => ?_,
    fun n c e r x he hr hx written => ⟨d, head, ?_⟩, fun c i hd => ?_⟩
  · cases head.symm.trans hi
    exact faults (past.trans (within ho r hr))
  · by_cases inside : last < c.top.regs.length
    · obtain ⟨a, ha, regs⟩ := goesOn (c := c.longer n) (by rw [Ctx.longer, longer_length]; omega)
      rw [he] at ha
      cases ha
      rw [regs, hw.above _ r (by omega)] at hx
      exact absurd written (by simp [longer_unwritten hr hx])
    · have ports : e.ports = c.ports := by
        by_cases fits : last < (c.longer n).top.regs.length
        · obtain ⟨a, ha, -⟩ := goesOn fits
          rw [he] at ha
          cases ha
          rfl
        · rw [faults (not_lt.1 fits)] at he; cases he
      rw [ports]
      exact faults (not_lt.1 inside)
  · by_cases inside : last < c.top.regs.length
    · obtain ⟨a, ha, -⟩ := goesOn inside
      rw [ha] at hd; cases hd
    · rw [faults (not_lt.1 inside)] at hd; cases hd

/-- One slot written, then the cursor advances. -/
theorem handled_write {d : Nat} {w : Handler Unit} {put : Activation → Activation} (n : Nat) (hw : Writes d d w put) :
    Handled q [] only [d] (w >>= fun _ => advance n) :=
  handled_write_then hw (closes_advance n) rfl fun _ => by simp

/-- A pair written, then the cursor advances. -/
theorem handled_writePair {d : Nat} {w : Handler Unit} {put : Activation → Activation} (n : Nat)
    (hw : Writes d (d + 1) w put) : Handled q [] only [d, d + 1] (w >>= fun _ => advance n) :=
  handled_write_then hw (closes_advance n) rfl fun _ => by simp

end

/-! ### The parts of the handlers -/

section
variable {α : Type} {q : Prop}

theorem asks_classRef (idx : Nat) : Asks q (classRef idx) := asks_bind (asks_ask _) asks_orResolution

theorem asks_requireNonNull (h : Handle) (what : NullWhat) : Asks q (requireNonNull h what) :=
  asks_ite (asks_raise _) (asks_pure _)

theorem asks_instanceOrNull (h cls : Handle) (b : Bool) : Asks q (instanceOrNull h cls b) :=
  asks_ite (asks_pure _) (asks_ask _)

theorem asks_checkElement (arr : Handle) (idx : Int) : Asks q (checkElement arr idx) :=
  asks_bind (asks_requireNonNull _ _) fun _ => asks_bind (asks_ask _) fun _ => asks_ite (asks_raise _) (asks_pure _)

theorem leaves_readUnit (k : Int) : Leaves q (readUnit k) := leaves_bind leaves_getTop fun _ => leaves_checked _
theorem leaves_readUnit32 (k : Int) : Leaves q (readUnit32 k) := leaves_bind leaves_getTop fun _ => leaves_checked _

theorem leaves_checkMagic (magic : CodeUnit) (t : Int) : Leaves q (checkMagic magic t) :=
  leaves_bind (leaves_readUnit t) fun _ => leaves_ite (leaves_pure _) (leaves_faultWith _)

theorem leaves_checkCount (n : BitVec 4) : Leaves q (checkCount n) :=
  leaves_bind leaves_getTop fun _ => leaves_ite (leaves_faultWith _) (leaves_pure _)

theorem leaves_readFilled (k : ElemKind) (regs : List Nat) : Leaves q (readFilled k regs) :=
  leaves_bind leaves_getTop fun _ => by
    split
    · exact leaves_checked _
    · exact leaves_checked _
    · exact leaves_checked _
    · exact leaves_raise _

theorem leaves_nullMonitor (pc0 : Nat) : Leaves q (nullMonitor pc0) := fun c => by
  rw [nullMonitor, handler_bind_ok (handler_get c)]
  cases c.params.monitorNull with
  | fault => exact leaves_faultWith _ c
  | npe => exact leaves_raise _ c

theorem leaves_finish (v : ReturnValue) : Leaves q (finish v) := leaves_update fun _ => rfl

theorem leaves_returnMismatch : Leaves q returnMismatch := leaves_bind leaves_getTop fun _ => leaves_faultWith _

theorem leaves_readReceiver (kind : InvokeKind) (regs : List Nat) : Leaves q (readReceiver kind regs) := by
  unfold readReceiver
  split
  · exact leaves_pure _
  · exact leaves_bind (readsAs_ref _).asks.leaves fun _ =>
      leaves_bind (asks_requireNonNull _ _).leaves fun _ => leaves_pure _

theorem leaves_chooseTarget (kind : InvokeKind) (m : Handle) (recv : Option Handle) :
    Leaves q (chooseTarget kind m recv) := by
  unfold chooseTarget
  split
  · exact leaves_pure _
  · exact leaves_pure _
  · exact leaves_bind (leaves_ask _) fun _ => (asks_orResolution _).leaves

theorem leaves_awaitCall (call : StagedCall) : Leaves q (awaitCall call) :=
  leaves_bind (leaves_ask _) fun r => by
    cases r with
    | returns bits => exact leaves_update fun a => a.putResult_regs _
    | fails e => exact leaves_raise _
    | reenters entry =>
      exact leaves_bind (x := get) (fun _ => rfl) fun _ => leaves_bind (leaves_ask _) fun _ =>
        leaves_bind (leaves_checked _) fun b => leaves_update_then fun _ =>
          leaves_bind (leaves_ask _) fun _ => leaves_pushCallee b

theorem leaves_callHost (call : StagedCall) (recv : Option Handle) (sh : Shorty) : Leaves q (callHost call recv sh) :=
  leaves_bind (leaves_ask _) fun _ => leaves_update_then fun _ => leaves_awaitCall call

theorem leaves_callNested (pc0 need : Nat) (call : StagedCall) (sh : Shorty) : Leaves q (callNested pc0 need call sh) :=
  leaves_bind (leaves_ask _) fun info c => by
    rw [handler_bind_ok (handler_get c)]
    split
    · exact leaves_faultWith _ c
    · split
      · exact leaves_faultWith _ c
      · cases Activation.start (info.toMethod sh) call.args with
        | error f => exact leaves_faultWith (α := Unit) f c
        | ok b => exact rfl

theorem leaves_invoke (kind : InvokeKind) (form : ArgForm) (idx : Nat) (regs : List Nat) :
    Leaves q (invoke kind form idx regs) :=
  leaves_update_then fun _ => leaves_bind (leaves_ask _) fun _ =>
    leaves_bind (asks_orResolution _).leaves fun _ => leaves_bind (leaves_ask _) fun _ =>
      leaves_ite (leaves_faultWith _) <| leaves_bind (leaves_readReceiver _ _) fun _ =>
        leaves_bind (leaves_chooseTarget _ _ _) fun _ => leaves_bind (leaves_checked _) fun _ =>
          leaves_bind (leaves_ask _) fun _ => leaves_ite (leaves_callNested _ _ _ _) (leaves_callHost _ _ _)

theorem leaves_filledArray (idx : Nat) (regs : List Nat) : Leaves q (filledArray idx regs) :=
  leaves_bind (leaves_ask _) fun _ => leaves_bind (leaves_readFilled _ _) fun _ =>
    leaves_bind (leaves_ask _) fun _ => leaves_bind (asks_orResolution _).leaves fun _ =>
      leaves_bind (leaves_ask _) fun _ => leaves_bind (asks_orHost _).leaves fun _ =>
        leaves_update fun a => a.putResult_regs _

end

end Sys2Proof.Machine
end

section
/-! The register checks of each handler, and one table over the instructions. -/

namespace Sys2Proof.Machine

section
variable {q : Prop} {only : Bool}

/-! ### Moves and constants -/

theorem handled_moveI32 (dst src n : Nat) : Handled q [.i32 src] only [dst] (moveI32 dst src n) :=
  handled_read (readsAs_i32 _) fun _ => handled_write _ (writes_i32 _ _)
theorem handled_moveI64 (dst src n : Nat) : Handled q [.i64 src] only [dst, dst + 1] (moveI64 dst src n) :=
  handled_read (readsAs_i64 _) fun _ => handled_writePair _ (writes_i64 _ _)
theorem handled_moveRef (dst src n : Nat) : Handled q [.ref src] only [dst] (moveRef dst src n) :=
  handled_read (readsAs_ref _) fun _ => handled_write _ (writes_ref _ _)
theorem handled_moveResultI32 (dst : Nat) : Handled q [] false [dst] (moveResultI32 dst) :=
  handled_asks asks_readRV fun _ => handled_write _ (writes_i32 _ _)
theorem handled_moveResultI64 (dst : Nat) : Handled q [] false [dst, dst + 1] (moveResultI64 dst) :=
  handled_asks asks_readRV fun _ => handled_writePair _ (writes_i64 _ _)
theorem handled_moveResultRef (dst : Nat) : Handled q [] false [dst] (moveResultRef dst) :=
  handled_asks asks_readRV fun _ => handled_write _ (writes_ref _ _)

theorem closes_clearExc : Closes (clearExc >>= fun _ => advance 1) := fun c =>
  ⟨{ c.top with exc := none, pc := c.top.pc + 1 }, rfl, rfl⟩

theorem handled_takeCaught (dst : Nat) : Handled q [] false [dst] (takeCaught dst) :=
  handled_getTop (fun _ _ => rfl) fun a => by
    cases a.exc with
    | none => exact handled_leaves (leaves_faultWith _)
    | some h => exact handled_write_then (writes_ref _ _) closes_clearExc rfl fun h => absurd h Bool.false_ne_true

theorem handled_loadI32 (dst n : Nat) (v : Word32) : Handled q [] only [dst] (loadI32 dst n v) :=
  handled_write _ (writes_i32 _ _)
theorem handled_loadI64 (dst n : Nat) (v : Word64) : Handled q [] only [dst, dst + 1] (loadI64 dst n v) :=
  handled_writePair _ (writes_i64 _ _)
theorem handled_loadString (dst n idx : Nat) : Handled q [] false [dst] (loadString dst n idx) :=
  handled_asks (asks_ask _) fun _ => handled_write _ (writes_ref _ _)
theorem handled_loadClass (dst idx : Nat) : Handled q [] false [dst] (loadClass dst idx) :=
  handled_asks (asks_classRef _) fun _ => handled_write _ (writes_ref _ _)

/-! ### Unary operations and conversions (R253, R364, R365, R370 to R384) -/

/-- A unary operation on a 32-bit source, its result an int, a float, or a long or double. -/
theorem handled_i32_to_i32 {f : Word32 → Word32} (dst src : Nat) :
    Handled q [.i32 src] only [dst] (readI32 src >>= fun v => writeI32 dst (f v) >>= fun _ => advance 1) :=
  handled_read (readsAs_i32 _) fun _ => handled_write _ (writes_i32 _ _)
theorem handled_i32_to_f32 {f : Word32 → Word32} (dst src : Nat) :
    Handled q [.i32 src] only [dst] (readI32 src >>= fun v => writeF32 dst (f v) >>= fun _ => advance 1) :=
  handled_read (readsAs_i32 _) fun _ => handled_write _ (writes_f32 _ _)
theorem handled_i32_to_i64 {f : Word32 → Word64} (dst src : Nat) :
    Handled q [.i32 src] only [dst, dst + 1] (readI32 src >>= fun v => writeI64 dst (f v) >>= fun _ => advance 1) :=
  handled_read (readsAs_i32 _) fun _ => handled_writePair _ (writes_i64 _ _)

/-- A unary operation on a 64-bit source likewise. -/
theorem handled_i64_to_i32 {f : Word64 → Word32} (dst src : Nat) :
    Handled q [.i64 src] only [dst] (readI64 src >>= fun v => writeI32 dst (f v) >>= fun _ => advance 1) :=
  handled_read (readsAs_i64 _) fun _ => handled_write _ (writes_i32 _ _)
theorem handled_i64_to_f32 {f : Word64 → Word32} (dst src : Nat) :
    Handled q [.i64 src] only [dst] (readI64 src >>= fun v => writeF32 dst (f v) >>= fun _ => advance 1) :=
  handled_read (readsAs_i64 _) fun _ => handled_write _ (writes_f32 _ _)
theorem handled_i64_to_i64 {f : Word64 → Word64} (dst src : Nat) :
    Handled q [.i64 src] only [dst, dst + 1] (readI64 src >>= fun v => writeI64 dst (f v) >>= fun _ => advance 1) :=
  handled_read (readsAs_i64 _) fun _ => handled_writePair _ (writes_i64 _ _)

/-! ### Integers -/

theorem handled_longCompare (dst l r : Nat) : Handled q [.i64 l, .i64 r] only [dst] (longCompare dst l r) :=
  handled_read (readsAs_i64 _) fun _ => handled_read (readsAs_i64 _) fun _ => handled_write _ (writes_i32 _ _)
theorem handled_intBinary (dst l r n : Nat) (f : Word32 → Word32 → Word32) :
    Handled q [.i32 l, .i32 r] only [dst] (intBinary dst l r n f) :=
  handled_read (readsAs_i32 _) fun _ => handled_read (readsAs_i32 _) fun _ => handled_write _ (writes_i32 _ _)
theorem handled_intDivide (dst l r n : Nat) (f : Word32 → Word32 → Word32) :
    Handled q [.i32 l, .i32 r] false [dst] (intDivide dst l r n f) :=
  handled_read (readsAs_i32 _) fun _ => handled_read (readsAs_i32 _) fun _ =>
    handled_ite (handled_raise _) (handled_write _ (writes_i32 _ _))
theorem handled_intLiteral (dst src : Nat) (lit : Word32) (f : Word32 → Word32 → Word32) :
    Handled q [.i32 src] only [dst] (intLiteral dst src lit f) :=
  handled_read (readsAs_i32 _) fun _ => handled_write _ (writes_i32 _ _)
theorem handled_intLiteralDivide (dst src : Nat) (lit : Word32) (f : Word32 → Word32 → Word32) :
    Handled q [.i32 src] false [dst] (intLiteralDivide dst src lit f) :=
  handled_read (readsAs_i32 _) fun _ => handled_ite (handled_raise _) (handled_write _ (writes_i32 _ _))
theorem handled_longBinary (dst l r n : Nat) (f : Word64 → Word64 → Word64) :
    Handled q [.i64 l, .i64 r] only [dst, dst + 1] (longBinary dst l r n f) :=
  handled_read (readsAs_i64 _) fun _ => handled_read (readsAs_i64 _) fun _ => handled_writePair _ (writes_i64 _ _)
theorem handled_longDivide (dst l r n : Nat) (f : Word64 → Word64 → Word64) :
    Handled q [.i64 l, .i64 r] false [dst, dst + 1] (longDivide dst l r n f) :=
  handled_read (readsAs_i64 _) fun _ => handled_read (readsAs_i64 _) fun _ =>
    handled_ite (handled_raise _) (handled_writePair _ (writes_i64 _ _))
theorem handled_longShift (dst l r n : Nat) (f : Word64 → Word32 → Word64) :
    Handled q [.i64 l, .i32 r] only [dst, dst + 1] (longShift dst l r n f) :=
  handled_read (readsAs_i64 _) fun _ => handled_read (readsAs_i32 _) fun _ => handled_writePair _ (writes_i64 _ _)

/-! ### Floating point -/

theorem handled_floatCompare (dst l r : Nat) (bias : Word32) :
    Handled q [.i32 l, .i32 r] only [dst] (floatCompare dst l r bias) :=
  handled_read (readsAs_i32 _) fun _ => handled_read (readsAs_i32 _) fun _ => handled_write _ (writes_i32 _ _)
theorem handled_doubleCompare (dst l r : Nat) (bias : Word32) :
    Handled q [.i64 l, .i64 r] only [dst] (doubleCompare dst l r bias) :=
  handled_read (readsAs_i64 _) fun _ => handled_read (readsAs_i64 _) fun _ => handled_write _ (writes_i32 _ _)
theorem handled_floatBinary (dst l r n : Nat) (f : FloatFormat → FloatValue → FloatValue → Option Nat) :
    Handled q [.i32 l, .i32 r] false [dst] (floatBinary dst l r n f) :=
  handled_read (readsAs_i32 _) fun _ => handled_read (readsAs_i32 _) fun _ =>
    handled_asks (asks_ask _) fun _ => handled_write _ (writes_f32 _ _)
theorem handled_doubleBinary (dst l r n : Nat) (f : FloatFormat → FloatValue → FloatValue → Option Nat) :
    Handled q [.i64 l, .i64 r] false [dst, dst + 1] (doubleBinary dst l r n f) :=
  handled_read (readsAs_i64 _) fun _ => handled_read (readsAs_i64 _) fun _ =>
    handled_asks (asks_ask _) fun _ => handled_writePair _ (writes_i64 _ _)

theorem handled_floatToDoubleOp (dst src : Nat) : Handled q [.i32 src] false [dst, dst + 1] (floatToDoubleOp dst src) :=
  handled_read (readsAs_i32 _) fun _ => handled_asks (asks_ask _) fun _ => handled_writePair _ (writes_i64 _ _)
theorem handled_doubleToFloatOp (dst src : Nat) : Handled q [.i64 src] false [dst] (doubleToFloatOp dst src) :=
  handled_read (readsAs_i64 _) fun _ => handled_asks (asks_ask _) fun _ => handled_write _ (writes_f32 _ _)

/-! ### Control flow -/

theorem handled_branchIf (k : Cond) (l r : Nat) (off : BitVec 16) :
    Handled q [.i32 l, .i32 r] false [] (branchIf k l r off) :=
  handled_read (readsAs_i32 _) fun _ => handled_read (readsAs_i32 _) fun _ =>
    handled_leaves (leaves_ite (leaves_jump _) (leaves_advance 2))
theorem handled_branchIfZero (k : Cond) (l : Nat) (off : BitVec 16) :
    Handled q [.i32 l] false [] (branchIfZero k l off) :=
  handled_read (readsAs_i32 _) fun _ => handled_leaves (leaves_ite (leaves_jump _) (leaves_advance 2))

theorem handled_packedSwitchOn (src : Nat) (off : Word32) : Handled q [.i32 src] false [] (packedSwitchOn src off) :=
  handled_read (readsAs_i32 _) fun _ => handled_leaves <| leaves_bind leaves_getTop fun _ =>
    leaves_bind (leaves_checkMagic _ _) fun _ => leaves_bind (leaves_readUnit _) fun _ =>
      leaves_bind (leaves_readUnit32 _) fun _ =>
        leaves_ite (leaves_bind (leaves_readUnit32 _) fun _ => leaves_jump _) (leaves_advance 3)

theorem handled_sparseSwitchOn (src : Nat) (off : Word32) : Handled q [.i32 src] false [] (sparseSwitchOn src off) :=
  handled_read (readsAs_i32 _) fun v => handled_leaves <| leaves_bind leaves_getTop fun _ =>
    leaves_bind (leaves_checkMagic _ _) fun _ => leaves_bind (leaves_readUnit _) fun _ =>
      leaves_bind (leaves_checked _) fun keys => leaves_ite
        (by
          cases keys.idxOf? v with
          | some j => exact leaves_bind (leaves_readUnit32 _) fun _ => leaves_jump _
          | none => exact leaves_advance 3)
        (leaves_faultWith _)

theorem handled_throwRef (src : Nat) : Handled q [.ref src] false [] (throwRef src) :=
  handled_read (readsAs_ref _) fun _ => handled_ite (handled_raise _) (handled_raise _)

theorem handled_finishVoid : Handled q [] false [] finishVoid :=
  handled_leaves <| leaves_bind leaves_getTop fun _ => by
    split
    · exact leaves_finish _
    · exact leaves_returnMismatch
theorem handled_finishI32 (src : Nat) : Handled q [.i32 src] false [] (finishI32 src) :=
  handled_read (readsAs_i32 _) fun _ => handled_leaves <| leaves_bind leaves_getTop fun _ => by
    split
    · exact leaves_finish _
    · exact leaves_returnMismatch
theorem handled_finishI64 (src : Nat) : Handled q [.i64 src] false [] (finishI64 src) :=
  handled_read (readsAs_i64 _) fun _ => handled_leaves <| leaves_bind leaves_getTop fun _ => by
    split
    · exact leaves_finish _
    · exact leaves_returnMismatch
theorem handled_finishRef (src : Nat) : Handled q [.ref src] false [] (finishRef src) :=
  handled_read (readsAs_ref _) fun _ => handled_leaves <| leaves_bind leaves_getTop fun _ => by
    split
    · exact leaves_finish _
    · exact leaves_returnMismatch

/-- The one handler that may end for want of an answer (R456). -/
theorem handled_acquireMonitor (waits : q) (src : Nat) : Handled q [.ref src] false [] (acquireMonitor src) :=
  handled_read (readsAs_ref _) fun _ => handled_leaves <| leaves_bind leaves_getTop fun _ => leaves_ite
    (leaves_nullMonitor _)
    (leaves_bind (leaves_ask _) fun r => by
      cases r with
      | acquired => exact leaves_advance 1
      | fails e => exact leaves_raise _
      | unanswered => exact fun _ _ => waits)

theorem handled_releaseMonitor (src : Nat) : Handled q [.ref src] false [] (releaseMonitor src) :=
  handled_read (readsAs_ref _) fun _ => handled_leaves <| leaves_bind leaves_getTop fun _ =>
    leaves_bind (leaves_advance 1) fun _ => leaves_ite (leaves_nullMonitor _)
      (leaves_bind (leaves_ask _) fun _ => (asks_orHost _).leaves)

/-! ### Objects, arrays and fields -/

theorem handled_lengthOf (dst src : Nat) : Handled q [.ref src] false [dst] (lengthOf dst src) :=
  handled_read (readsAs_ref _) fun _ => handled_asks (asks_requireNonNull _ _) fun _ =>
    handled_asks (asks_ask _) fun _ => handled_write _ (writes_i32 _ _)
theorem handled_allocObject (dst idx : Nat) : Handled q [] false [dst] (allocObject dst idx) :=
  handled_asks (asks_classRef _) fun _ => handled_asks (asks_ask _) fun _ =>
    handled_asks (asks_orHost _) fun _ => handled_write _ (writes_ref _ _)
theorem handled_allocArrayOf (dst src idx : Nat) : Handled q [.i32 src] false [dst] (allocArrayOf dst src idx) :=
  handled_read (readsAs_i32 _) fun _ => handled_asks (asks_classRef _) fun _ => handled_ite (handled_raise _)
    (handled_asks (asks_ask _) fun _ => handled_asks (asks_orResolution _) fun _ => handled_write _ (writes_ref _ _))
theorem handled_castCheck (src idx : Nat) : Handled q [.ref src] false [] (castCheck src idx) :=
  handled_read (readsAs_ref _) fun _ => handled_asks (asks_classRef _) fun _ =>
    handled_asks (asks_instanceOrNull _ _ _) fun _ => handled_ite (handled_leaves (leaves_advance 2))
      (handled_asks (asks_ask _) fun _ => handled_raise _)
theorem handled_instanceTest (dst src idx : Nat) : Handled q [.ref src] false [dst] (instanceTest dst src idx) :=
  handled_read (readsAs_ref _) fun _ => handled_asks (asks_classRef _) fun _ =>
    handled_asks (asks_instanceOrNull _ _ _) fun _ => handled_write _ (writes_i32 _ _)

theorem handled_fillFromTable (src : Nat) (off : Word32) : Handled q [.ref src] false [] (fillFromTable src off) :=
  handled_read (readsAs_ref _) fun _ => handled_leaves <| leaves_bind (asks_requireNonNull _ _).leaves fun _ =>
    leaves_bind leaves_getTop fun _ => leaves_bind (leaves_checkMagic _ _) fun _ =>
      leaves_bind (leaves_readUnit _) fun _ => leaves_ite
        (leaves_bind (leaves_readUnit32 _) fun _ => leaves_bind (leaves_ask _) fun _ =>
          leaves_ite (leaves_raise _)
            (leaves_bind (leaves_checked _) fun _ => leaves_bind (leaves_ask _) fun _ =>
              leaves_bind (asks_orHost _).leaves fun _ => leaves_advance 3))
        (leaves_faultWith _)

theorem handled_filledPacked (count : BitVec 4) (idx : Nat) (c d e f g : BitVec 4) :
    Handled q [] false [] (filledPacked count idx c d e f g) :=
  handled_leaves (leaves_bind (leaves_checkCount _) fun _ => leaves_filledArray _ _)

/-- An element read, then whatever is done with its bits. -/
theorem handled_getElement {dsts : List Nat} (t : TypeCode) (arrReg idxReg : Nat) {f : Word64 → Handler Unit}
    (hf : ∀ v, Handled q [] false dsts (f v)) :
    Handled q [.ref arrReg, .i32 idxReg] false dsts (getElement t arrReg idxReg >>= f) := by
  simp only [getElement, bind_assoc]
  exact handled_read (readsAs_ref _) fun _ => handled_read (readsAs_i32 _) fun _ =>
    handled_asks (asks_checkElement _ _) fun _ => handled_asks (asks_ask _) hf

theorem handled_getElement32 (k : Code32) (dst arrReg idxReg : Nat) :
    Handled q [.ref arrReg, .i32 idxReg] false [dst] (getElement32 k dst arrReg idxReg) :=
  handled_getElement _ _ _ fun _ => handled_write _ (writes_i32 _ _)
theorem handled_getElement64 (dst arrReg idxReg : Nat) :
    Handled q [.ref arrReg, .i32 idxReg] false [dst, dst + 1] (getElement64 dst arrReg idxReg) :=
  handled_getElement _ _ _ fun _ => handled_writePair _ (writes_i64 _ _)
theorem handled_getElementRef (dst arrReg idxReg : Nat) :
    Handled q [.ref arrReg, .i32 idxReg] false [dst] (getElementRef dst arrReg idxReg) :=
  handled_getElement _ _ _ fun _ => handled_write _ (writes_ref _ _)

theorem handled_putElement32 (k : Code32) (src arrReg idxReg : Nat) :
    Handled q [.i32 src, .ref arrReg, .i32 idxReg] false [] (putElement32 k src arrReg idxReg) :=
  handled_read (readsAs_i32 _) fun _ => handled_read (readsAs_ref _) fun _ => handled_read (readsAs_i32 _) fun _ =>
    handled_asks (asks_checkElement _ _) fun _ => handled_asks (asks_ask _) fun _ => handled_leaves (leaves_advance 2)
theorem handled_putElement64 (src arrReg idxReg : Nat) :
    Handled q [.i64 src, .ref arrReg, .i32 idxReg] false [] (putElement64 src arrReg idxReg) :=
  handled_read (readsAs_i64 _) fun _ => handled_read (readsAs_ref _) fun _ => handled_read (readsAs_i32 _) fun _ =>
    handled_asks (asks_checkElement _ _) fun _ => handled_asks (asks_ask _) fun _ => handled_leaves (leaves_advance 2)
theorem handled_putElementRef (src arrReg idxReg : Nat) :
    Handled q [.ref src, .ref arrReg, .i32 idxReg] false [] (putElementRef src arrReg idxReg) :=
  handled_read (readsAs_ref _) fun _ => handled_read (readsAs_ref _) fun _ => handled_read (readsAs_i32 _) fun _ =>
    handled_asks (asks_checkElement _ _) fun _ => handled_asks (asks_ask _) fun _ =>
      handled_asks (asks_orHost _) fun _ => handled_leaves (leaves_advance 2)

/-- The code of the value chooses how much of the pair is written (R498). -/
theorem handled_writeField (dst : Nat) (v : TypedValue) :
    Handled q [] false [dst, dst + 1] (writeField dst v >>= fun _ => advance 2) := by
  unfold writeField
  split
  · exact handled_write_then (writes_f32 _ _) (closes_advance 2) rfl fun h => absurd h Bool.false_ne_true
  · exact handled_write_then (writes_i32 _ _) (closes_advance 2) rfl fun h => absurd h Bool.false_ne_true
  · exact handled_writePair _ (writes_i64 _ _)
  · exact handled_write_then (writes_ref _ _) (closes_advance 2) rfl fun h => absurd h Bool.false_ne_true

theorem handled_getField (dst idx : Nat) (inst : Handle) : Handled q [] false [dst, dst + 1] (getField dst idx inst) :=
  handled_asks (asks_ask _) fun _ => handled_asks (asks_orResolution _) fun _ => handled_writeField _ _
theorem handled_putField (idx : Nat) (inst : Handle) (v : TypedValue) : Handled q [] false [] (putField idx inst v) :=
  handled_asks (asks_ask _) fun _ => handled_asks (asks_orResolution _) fun _ => handled_leaves (leaves_advance 2)
theorem handled_getInstanceField (dst objReg idx : Nat) :
    Handled q [.ref objReg] false [dst, dst + 1] (getInstanceField dst objReg idx) :=
  handled_read (readsAs_ref _) fun _ => handled_asks (asks_requireNonNull _ _) fun _ => handled_getField _ _ _
theorem handled_putInstanceField (t : TypeCode) (src objReg idx : Nat) {x : Source} (hx : t.source src = x) :
    Handled q [x, .ref objReg] false [] (putInstanceField t src objReg idx) :=
  handled_read (hx ▸ readsAs_typed t src) fun _ => handled_read (readsAs_ref _) fun _ =>
    handled_asks (asks_requireNonNull _ _) fun _ => handled_putField _ _ _
theorem handled_putStaticField (t : TypeCode) (src idx : Nat) {x : Source} (hx : t.source src = x) :
    Handled q [x] false [] (putStaticField t src idx) :=
  handled_read (hx ▸ readsAs_typed t src) fun _ => handled_putField _ _ _

theorem handled_invokePacked (kind : InvokeKind) (count : BitVec 4) (idx : Nat) (c d e f g : BitVec 4) :
    Handled q [] false [] (invokePacked kind count idx c d e f g) :=
  handled_leaves (leaves_bind (leaves_checkCount _) fun _ => leaves_invoke _ _ _ _)

theorem handled_trap (op : BitVec 8) : Handled q [] false [] (trap op) :=
  handled_leaves (leaves_bind leaves_getTop fun _ => leaves_faultWith _)

end

/-! ### The table -/

/-- Every instruction runs a handler that checks its registers as `sources`, `registerOnly` and `dests` say, and only a
monitor-enter may end for want of an answer. -/
theorem exec_runs_handled (i : Instr) : ∃ h, (∀ s, exec i s = runTop h s) ∧
    Handled (∃ r, i = .monitorEnter r) i.sources i.registerOnly i.dests h := by
  cases i with
  | nop => exact ⟨_, fun _ => rfl, handled_leaves (leaves_advance _)⟩
  | move | moveFrom16 | move16 => exact ⟨_, fun _ => rfl, handled_moveI32 _ _ _⟩
  | moveWide | moveWideFrom16 | moveWide16 => exact ⟨_, fun _ => rfl, handled_moveI64 _ _ _⟩
  | moveObject | moveObjectFrom16 | moveObject16 => exact ⟨_, fun _ => rfl, handled_moveRef _ _ _⟩
  | moveResult => exact ⟨_, fun _ => rfl, handled_moveResultI32 _⟩
  | moveResultWide => exact ⟨_, fun _ => rfl, handled_moveResultI64 _⟩
  | moveResultObject => exact ⟨_, fun _ => rfl, handled_moveResultRef _⟩
  | moveException => exact ⟨_, fun _ => rfl, handled_takeCaught _⟩
  | returnVoid => exact ⟨_, fun _ => rfl, handled_finishVoid⟩
  | returnVal => exact ⟨_, fun _ => rfl, handled_finishI32 _⟩
  | returnWide => exact ⟨_, fun _ => rfl, handled_finishI64 _⟩
  | returnObject => exact ⟨_, fun _ => rfl, handled_finishRef _⟩
  | const4 | const16 | const32 | constHigh16 => exact ⟨_, fun _ => rfl, handled_loadI32 _ _ _⟩
  | constWide16 | constWide32 | constWide | constWideHigh16 => exact ⟨_, fun _ => rfl, handled_loadI64 _ _ _⟩
  | constString | constStringJumbo => exact ⟨_, fun _ => rfl, handled_loadString _ _ _⟩
  | constClass => exact ⟨_, fun _ => rfl, handled_loadClass _ _⟩
  | monitorEnter r => exact ⟨_, fun _ => rfl, handled_acquireMonitor ⟨r, rfl⟩ _⟩
  | monitorExit => exact ⟨_, fun _ => rfl, handled_releaseMonitor _⟩
  | checkCast => exact ⟨_, fun _ => rfl, handled_castCheck _ _⟩
  | instanceOf => exact ⟨_, fun _ => rfl, handled_instanceTest _ _ _⟩
  | arrayLength => exact ⟨_, fun _ => rfl, handled_lengthOf _ _⟩
  | newInstance => exact ⟨_, fun _ => rfl, handled_allocObject _ _⟩
  | newArray => exact ⟨_, fun _ => rfl, handled_allocArrayOf _ _ _⟩
  | filledNewArray => exact ⟨_, fun _ => rfl, handled_filledPacked _ _ _ _ _ _ _⟩
  | filledNewArrayRange => exact ⟨_, fun _ => rfl, handled_leaves (leaves_filledArray _ _)⟩
  | fillArrayData => exact ⟨_, fun _ => rfl, handled_fillFromTable _ _⟩
  | throwObj => exact ⟨_, fun _ => rfl, handled_throwRef _⟩
  | goto | goto16 | goto32 => exact ⟨_, fun _ => rfl, handled_leaves (leaves_jump _)⟩
  | packedSwitch => exact ⟨_, fun _ => rfl, handled_packedSwitchOn _ _⟩
  | sparseSwitch => exact ⟨_, fun _ => rfl, handled_sparseSwitchOn _ _⟩
  | cmplFloat | cmpgFloat => exact ⟨_, fun _ => rfl, handled_floatCompare _ _ _ _⟩
  | cmplDouble | cmpgDouble => exact ⟨_, fun _ => rfl, handled_doubleCompare _ _ _ _⟩
  | cmpLong => exact ⟨_, fun _ => rfl, handled_longCompare _ _ _⟩
  | ifEq | ifNe | ifLt | ifGe | ifGt | ifLe => exact ⟨_, fun _ => rfl, handled_branchIf _ _ _ _⟩
  | ifEqz | ifNez | ifLtz | ifGez | ifGtz | ifLez => exact ⟨_, fun _ => rfl, handled_branchIfZero _ _ _⟩
  | unused3e | unused3f | unused40 | unused41 | unused42 | unused43 | unused73 | unused79 | unused7a | unusedE3
    | unusedE4 | unusedE5 | unusedE6 | unusedE7 | unusedE8 | unusedE9 | unusedEa | unusedEb | unusedEc
    | unusedEd | unusedEe | unusedEf | unusedF0 | unusedF1 | unusedF2 | unusedF3 | unusedF4 | unusedF5
    | unusedF6 | unusedF7 | unusedF8 | unusedF9 | unusedFa | unusedFb | unusedFc | unusedFd | unusedFe
    | unusedFf => exact ⟨_, fun _ => rfl, handled_trap _⟩
  | aget | agetBoolean | agetByte | agetChar | agetShort => exact ⟨_, fun _ => rfl, handled_getElement32 _ _ _ _⟩
  | agetWide => exact ⟨_, fun _ => rfl, handled_getElement64 _ _ _⟩
  | agetObject => exact ⟨_, fun _ => rfl, handled_getElementRef _ _ _⟩
  | aput | aputBoolean | aputByte | aputChar | aputShort => exact ⟨_, fun _ => rfl, handled_putElement32 _ _ _ _⟩
  | aputWide => exact ⟨_, fun _ => rfl, handled_putElement64 _ _ _⟩
  | aputObject => exact ⟨_, fun _ => rfl, handled_putElementRef _ _ _⟩
  | iget | igetWide | igetObject | igetBoolean | igetByte | igetChar | igetShort =>
    exact ⟨_, fun _ => rfl, handled_getInstanceField _ _ _⟩
  | iput | iputBoolean | iputByte | iputChar | iputShort | iputWide | iputObject =>
    exact ⟨_, fun _ => rfl, handled_putInstanceField _ _ _ _ rfl⟩
  | sget | sgetWide | sgetObject | sgetBoolean | sgetByte | sgetChar | sgetShort =>
    exact ⟨_, fun _ => rfl, handled_getField _ _ _⟩
  | sput | sputBoolean | sputByte | sputChar | sputShort | sputWide | sputObject =>
    exact ⟨_, fun _ => rfl, handled_putStaticField _ _ _ rfl⟩
  | invokeVirtual | invokeSuper | invokeDirect | invokeStatic | invokeInterface =>
    exact ⟨_, fun _ => rfl, handled_invokePacked _ _ _ _ _ _ _ _⟩
  | invokeVirtualRange | invokeSuperRange | invokeDirectRange | invokeStaticRange | invokeInterfaceRange =>
    exact ⟨_, fun _ => rfl, handled_leaves (leaves_invoke _ _ _ _)⟩
  | negInt | notInt | intToByte | intToChar | intToShort | floatToInt =>
    exact ⟨_, fun _ => rfl, handled_i32_to_i32 _ _⟩
  | negFloat | intToFloat => exact ⟨_, fun _ => rfl, handled_i32_to_f32 _ _⟩
  | intToLong | intToDouble | floatToLong => exact ⟨_, fun _ => rfl, handled_i32_to_i64 _ _⟩
  | longToInt | doubleToInt => exact ⟨_, fun _ => rfl, handled_i64_to_i32 _ _⟩
  | longToFloat => exact ⟨_, fun _ => rfl, handled_i64_to_f32 _ _⟩
  | negLong | notLong | negDouble | longToDouble | doubleToLong => exact ⟨_, fun _ => rfl, handled_i64_to_i64 _ _⟩
  | floatToDouble => exact ⟨_, fun _ => rfl, handled_floatToDoubleOp _ _⟩
  | doubleToFloat => exact ⟨_, fun _ => rfl, handled_doubleToFloatOp _ _⟩
  | addInt | subInt | mulInt | andInt | orInt | xorInt | shlInt | shrInt | ushrInt | addInt2addr | subInt2addr
    | mulInt2addr | andInt2addr | orInt2addr | xorInt2addr | shlInt2addr | shrInt2addr | ushrInt2addr =>
    exact ⟨_, fun _ => rfl, handled_intBinary _ _ _ _ _⟩
  | divInt | remInt | divInt2addr | remInt2addr => exact ⟨_, fun _ => rfl, handled_intDivide _ _ _ _ _⟩
  | addLong | subLong | mulLong | andLong | orLong | xorLong | addLong2addr | subLong2addr | mulLong2addr
    | andLong2addr | orLong2addr | xorLong2addr => exact ⟨_, fun _ => rfl, handled_longBinary _ _ _ _ _⟩
  | divLong | remLong | divLong2addr | remLong2addr => exact ⟨_, fun _ => rfl, handled_longDivide _ _ _ _ _⟩
  | shlLong | shrLong | ushrLong | shlLong2addr | shrLong2addr | ushrLong2addr =>
    exact ⟨_, fun _ => rfl, handled_longShift _ _ _ _ _⟩
  | addFloat | subFloat | mulFloat | divFloat | remFloat | addFloat2addr | subFloat2addr | mulFloat2addr
    | divFloat2addr | remFloat2addr => exact ⟨_, fun _ => rfl, handled_floatBinary _ _ _ _ _⟩
  | addDouble | subDouble | mulDouble | divDouble | remDouble | addDouble2addr | subDouble2addr | mulDouble2addr
    | divDouble2addr | remDouble2addr => exact ⟨_, fun _ => rfl, handled_doubleBinary _ _ _ _ _⟩
  | addIntLit16 | rsubInt | mulIntLit16 | andIntLit16 | orIntLit16 | xorIntLit16 | addIntLit8 | rsubIntLit8
    | mulIntLit8 | andIntLit8 | orIntLit8 | xorIntLit8 | shlIntLit8 | shrIntLit8 | ushrIntLit8 =>
    exact ⟨_, fun _ => rfl, handled_intLiteral _ _ _ _⟩
  | divIntLit16 | remIntLit16 | divIntLit8 | remIntLit8 => exact ⟨_, fun _ => rfl, handled_intLiteralDivide _ _ _ _⟩

/-! ### The checks at the instructions -/

section
variable {s : State} {a : Activation} {rest : List Activation}

/-- A handler that faults with its cursor where it was leaves everything else as it was (R611). -/
theorem runTop_faultsAt {h : Handler Unit} {f : EngineFault} {p : Ports} (hs : s.stack = a :: rest)
    (hc : h (Ctx.enter s a rest) = .error (.faulted f) { Ctx.enter s a rest with ports := p }) :
    runTop h s = faultsAt s f p := by
  rw [runTop_faulted hs hc]
  cases s
  cases hs
  rfl

/-- What stands on top of `rest` alone is the activation that ran. -/
theorem top_of_stackOver {c : Ctx} {b : Activation} (h : c.stackOver rest = b :: rest) : c.top = b := by
  unfold Ctx.stackOver at h
  split at h
  · exact (List.cons.inj h).1
  · exact absurd (congrArg List.length h) (by simp)

/-- An instruction that would write past the end of the register file, were it longer, faults F6 in its place (R35). -/
theorem exec_pastEnd {i : Instr} {n r : Nat} {t : State} {b : Activation} {x : Slot} (hs : s.stack = a :: rest)
    (hexec : exec i { s with stack := a.longer n :: rest } = .next t) (ht : t.stack = b :: rest)
    (hr : a.regs.length ≤ r) (hx : b.regs[r]? = some x) (written : x.written = true) :
    ∃ d, i.dests.head? = some d ∧ exec i s = faultsAt s (.regRange d) t.ports := by
  obtain ⟨h, runs, handled⟩ := exec_runs_handled i
  have unwritten : (a.longer n).regs[r]? ≠ some x := fun hl => by cases (longer_unwritten hr hl).symm.trans written
  rw [runs] at hexec
  rcases runTop_cases (h := h) (s := { s with stack := a.longer n :: rest }) rfl with
    ⟨c, hc, hrun⟩ | ⟨e, c, hc, hrun⟩ | ⟨f, c, hc, hrun⟩ | ⟨c, hc, hrun⟩ <;>
    rw [hrun] at hexec <;> cases hexec
  case inl =>
    rw [← top_of_stackOver ht] at hx
    obtain ⟨d, head, fault⟩ := handled.pastEnd n (Ctx.enter s a rest) c r x hc hr hx written
    exact ⟨d, head, (runs s).trans (runTop_faultsAt hs fault)⟩
  case inr.inl =>
    cases ht
    exact absurd hx unwritten
  case inr.inr.inl =>
    cases ht
    exact absurd hx unwritten

end

theorem nreg_le_of_ok {m : Method} (h : m.ok = true) : m.nreg ≤ regMax := by
  simp only [Method.ok, Bool.and_eq_true, decide_eq_true_eq] at h
  obtain ⟨⟨⟨⟨⟨-, limit⟩, -⟩, -⟩, -⟩, -⟩ := h
  exact limit

/-- Settles O15: the accessors by their definitions, the instructions by the table of their handlers. -/
theorem registerFaults : Obligations.RegisterFaults := by
  intro a i v w
  have inside : ∀ {j : Nat} {x : Slot}, a.regs[j]? = some x → j < a.regs.length := fun h =>
    (List.getElem?_eq_some_iff.1 h).1
  have readable : ∀ {j : Nat} {x : Word64}, a.regs[j]? = some { word := x, written := true } → a.slot j = .ok x :=
    fun h => slot_eq_ok_iff.2 h
  refine ⟨fun hi => ?_, fun hi => ?_, fun x hx => ?_, fun x y hx hy => ?_, fun x y hx hy => ?_, fun x y hx hy => ?_,
    fun ok => ?_, fun j s rest hs => ?_⟩
  · have outside : ¬ i < a.regs.length := not_lt.2 hi
    refine ⟨?_, slot_range hi, if_neg outside, if_neg outside, if_neg outside⟩
    rw [Activation.i32, slot_range hi]
    rfl
  · exact ⟨i64_range hi, if_neg (not_lt.2 hi)⟩
  · refine ⟨?_, slot_unwritten hx⟩
    rw [Activation.i32, slot_unwritten hx]
    rfl
  · exact i64_error_low (inside hy) (slot_unwritten hx)
  · exact i64_error_high (inside hy) (readable hx) (slot_unwritten hy)
  · exact .inl (i64_error_low (inside hy) (slot_unwritten hx))
  · obtain ⟨slots, -, method, -⟩ := Activation.ok_iff.1 ok
    exact i64_range ((slots.trans_le (nreg_le_of_ok method)).trans (Nat.le_succ _))
  · obtain ⟨h, runs, handled⟩ := exec_runs_handled j
    refine ⟨fun f hf => ?_, fun d only readable head past => ?_, fun n t b r x => exec_pastEnd hs⟩
    · exact (runs s).trans (runTop_faultsAt hs (handled.sources (Ctx.enter s a rest) f hf))
    · exact (runs s).trans (runTop_faultsAt hs (handled.overflow only (Ctx.enter s a rest) d readable head past))

end Sys2Proof.Machine
end

section
/-! When a step gives a next state (spec/10_state.md R58, spec/40_dispatch.md R170, spec/44_control_flow.md R456). -/

namespace Sys2Proof.Machine

/-! ### One step, by the status of the top activation (R170) -/

section
variable {s : State} {a : Activation} {rest : List Activation}

theorem step_idle (hf : s.fault = none) (hs : s.stack = []) : step s = .next (idleStep s) := by
  rw [step, hf, hs]

theorem step_run {i : Instr} (hf : s.fault = none) (hs : s.stack = a :: rest) (st : a.st = .run)
    (fetched : a.method.fetch a.pc = .ok i) : step s = exec i s := by
  simp only [step, hf, hs, st, fetched]

theorem step_run_fault {f : EngineFault} (hf : s.fault = none) (hs : s.stack = a :: rest) (st : a.st = .run)
    (fetched : a.method.fetch a.pc = .error f) : step s = .next (s.abort f) := by
  simp only [step, hf, hs, st, fetched]

theorem step_throwing {e : Handle} (hf : s.fault = none) (hs : s.stack = a :: rest) (st : a.st = .throwing)
    (exc : a.exc = some e) : step s = unwind s a rest e := by
  simp only [step, hf, hs, st, throwingStep, exc]

theorem step_finished (hf : s.fault = none) (hs : s.stack = a :: rest) (st : a.st = .finished) :
    step s = deliver s a.ret rest := by
  simp only [step, hf, hs, st]

end

/-! ### What always goes on -/

/-- A handler gives a next state, or ends for want of an answer. -/
theorem runTop_next_or_waits {h : Handler Unit} {s : State} {a : Activation} {rest : List Activation}
    (hs : s.stack = a :: rest) : (∃ t, runTop h s = .next t) ∨
      (runTop h s = .fault .monitorUnanswered ∧ ∃ c, h (Ctx.enter s a rest) = .error .unanswered c) := by
  rcases runTop_cases (h := h) hs with ⟨c, -, hr⟩ | ⟨e, c, -, hr⟩ | ⟨f, c, -, hr⟩ | ⟨c, hc, hr⟩
  · exact .inl ⟨_, hr⟩
  · exact .inl ⟨_, hr⟩
  · exact .inl ⟨_, hr⟩
  · exact .inr ⟨hr, c, hc⟩

/-- A host call that goes on is always answered. -/
theorem leaves_resumeCall {q : Prop} (call : StagedCall) (ended : Reply Unit) : Leaves q (resumeCall call ended) := by
  cases ended with
  | ok v => exact leaves_awaitCall call
  | fails e => exact leaves_bind (leaves_ask _) fun _ => leaves_raise _

section
variable {s : State}

/-- A chain that ends has nothing below it, or an outstanding host call that goes on (R705). -/
theorem chainEnded_next {ended : Reply Unit} (below : belowOk s.ports.calls s.stack = true)
    (host : hostStarted s.stack = true) : ∃ t, chainEnded s ended = .next t := by
  cases hs : s.stack with
  | nil => exact ⟨s, chainEnded_last ended hs⟩
  | cons b rest =>
    rw [hs] at below host
    have notAwaiting : b.awaitsCallee = false := by simpa [hostStarted] using host
    obtain ⟨-, -, -, call, calls, hcalls, -⟩ := (belowOk_inHostCall notAwaiting).1 below
    rw [chainEnded_call ended hs hcalls]
    refine (runTop_next_or_waits (s := { s with ports := { s.ports with calls := calls } }) hs).resolve_right ?_
    rintro ⟨-, c, hc⟩
    have answered := leaves_resumeCall (q := False) call ended
      (Ctx.enter { s with ports := { s.ports with calls := calls } } b rest)
    rw [hc] at answered
    exact answered rfl

theorem deliver_next {r : ReturnValue} {rest : List Activation} (below : belowOk s.ports.calls rest = true) :
    ∃ t, deliver s r rest = .next t := by
  unfold deliver
  split
  · rename_i host
    exact chainEnded_next below host
  · exact ⟨_, rfl⟩

theorem propagate_next {e : Handle} {rest : List Activation} (below : belowOk s.ports.calls rest = true) :
    ∃ t, propagate s e rest = .next t := by
  unfold propagate
  split
  · rename_i host
    exact chainEnded_next below host
  · exact ⟨_, rfl⟩

theorem unwind_next {a : Activation} {rest : List Activation} {e : Handle} (below : belowOk s.ports.calls rest = true) :
    ∃ t, unwind s a rest e = .next t := by
  obtain ⟨-, -, -, calls⟩ := quiet_findHandler a e s.ports
  rw [← calls] at below
  unfold unwind
  split
  · rename_i p hp
    rw [hp] at below
    exact propagate_next (s := { s with ports := p }) below
  · split
    · exact ⟨_, rfl⟩
    · exact ⟨_, rfl⟩

end

/-- An instruction gives a next state, or is a monitor-enter that the host never answers (R456). -/
theorem exec_next_or_waits {s : State} {a : Activation} {rest : List Activation} (i : Instr) (hs : s.stack = a :: rest) :
    (∃ t, exec i s = .next t) ∨ (exec i s = .fault .monitorUnanswered ∧ ∃ r, i = .monitorEnter r) := by
  obtain ⟨h, runs, handled⟩ := exec_runs_handled i
  rw [runs]
  exact (runTop_next_or_waits hs).imp_right fun ⟨stop, c, hc⟩ => ⟨stop, handled.waits _ c hc⟩

/-- An activation in THROWING status has an exception (R602). -/
theorem exc_of_throwing {a : Activation} (h : a.statusOk = true) (st : a.st = .throwing) : ∃ e, a.exc = some e := by
  have idle := idle_of_not_calling h (by simp [st])
  exact Option.isSome_iff_exists.1 (by simpa [Activation.statusOk, st, idle] using h)

/-- Settles O9: by the status of the top activation. -/
theorem onlyFaultStops : Obligations.OnlyFaultStops := by
  intro s hinv
  cases hf : s.fault with
  | some f => exact .inr (.inl ⟨f, rfl, step_of_fault hf⟩)
  | none =>
    obtain ⟨-, stack, -⟩ := State.healthy_of_inv hinv hf
    cases hs : s.stack with
    | nil => exact .inl ⟨_, step_idle hf hs⟩
    | cons a rest =>
      rw [hs] at stack
      obtain ⟨ok, notCalling, below⟩ := stackOk_cons.1 stack
      obtain ⟨-, -, -, status⟩ := Activation.ok_iff.1 ok
      cases st : a.st with
      | run =>
        cases fetched : a.method.fetch a.pc with
        | error f => exact .inl ⟨_, step_run_fault hf hs st fetched⟩
        | ok i =>
          rw [step_run hf hs st fetched]
          refine (exec_next_or_waits i hs).imp_right fun ⟨stop, r, hr⟩ => .inr ⟨stop, a, rest, r, rfl, st, ?_⟩
          rw [fetched, hr]
      | throwing =>
        obtain ⟨e, exc⟩ := exc_of_throwing status st
        rw [step_throwing hf hs st exc]
        exact .inl (unwind_next below)
      | finished =>
        rw [step_finished hf hs st]
        exact .inl (deliver_next below)
      | calling => exact absurd st notCalling

end Sys2Proof.Machine
end

section
/-! The instruction stream as units and as bytes (spec/20_memory.md R82, R83). -/

namespace Sys2Proof.Machine

/-! ### A byte of the stream -/

/-- Byte 2k of the stream is the low byte of unit k, byte 2k + 1 its high byte; past the end both sides are zero. -/
theorem Memory.byte_ofUnits (units : List CodeUnit) (k : Nat) :
    (Memory.ofUnits units).byte (2 * k) = lowByte (units.getD k 0#16) ∧
      (Memory.ofUnits units).byte (2 * k + 1) = highByte (units.getD k 0#16) := by
  have listed (j : Nat) : (Memory.ofUnits units).byte j = (bytesOfUnits units).getD j 0#8 := by
    simpa [Memory.byte, Memory.ofUnits, Memory.unlisted] using Memory.byteIn_cellsFrom (bytesOfUnits units) 0 j
  rw [listed, listed]
  exact bytesOfUnits_getD units k

@[simp] theorem toNat_lowByte (u : CodeUnit) : (lowByte u).toNat = u.toNat % 256 := by
  simp [lowByte]

@[simp] theorem toNat_highByte (u : CodeUnit) : (highByte u).toNat = u.toNat / 256 % 256 := by
  simp [highByte, Nat.shiftRight_eq_div_pow]

/-- A byte of the stream as the base-256 digit of its unit that its parity names. -/
theorem Memory.toNat_byte_ofUnits (units : List CodeUnit) (k : Nat) :
    ((Memory.ofUnits units).byte k).toNat = (units.getD (k / 2) 0#16).toNat / 256 ^ (k % 2) % 256 := by
  obtain ⟨low, high⟩ := Memory.byte_ofUnits units (k / 2)
  rcases Nat.mod_two_eq_zero_or_one k with even | odd
  · have at_low : 2 * (k / 2) = k := by omega
    rw [at_low] at low
    rw [low, toNat_lowByte, even, pow_zero, Nat.div_one]
  · have at_high : 2 * (k / 2) + 1 = k := by omega
    rw [at_high] at high
    rw [high, toNat_highByte, odd, pow_one]

/-! ### A run of bytes -/

theorem Memory.little_eq_sum (m : Memory) (n a : Nat) :
    m.little a n = ((List.range n).map fun j => (m.byte (a + j)).toNat * 256 ^ j).sum := by
  induction n generalizing a with
  | zero => rfl
  | succ n ih =>
    have shift (j : Nat) : (m.byte (a + (j + 1))).toNat * 256 ^ (j + 1) =
        256 * ((m.byte (a + 1 + j)).toNat * 256 ^ j) := by
      rw [show a + (j + 1) = a + 1 + j by omega]
      ring
    rw [Memory.little, ih, List.range_succ_eq_map]
    simp [Function.comp_def, shift, List.sum_map_mul_left]

/-! ### The bounds of both reads -/

theorem Method.unit_of_outside {m : Method} {k : Int} (h : k < 0 ∨ m.len ≤ k) : m.unit k = .error (.pcRange k) :=
  if_neg (by omega)

theorem Method.memRead_of_inside {m : Method} {b n : Nat} (h : b + n ≤ 2 * m.len) :
    m.memRead b n = .ok (m.code.little b n) :=
  if_pos (.inr (by omega))

theorem Method.memRead_of_outside {m : Method} {b : Int} {n : Nat} (pos : 0 < n) (h : b < 0 ∨ 2 * m.len < b + n) :
    m.memRead b n = .error (.pcRange b) :=
  if_neg (by omega)

/-- Settles O13: a unit or a run of bytes by the stream it was made from inside the bounds, F3 by the bounds outside. -/
theorem codeUnits : Obligations.CodeUnits := by
  intro info sh m byte
  refine ⟨fun k u hu => ?unit, fun k => Method.unit_of_outside (m := m), fun b n inside => ?bytes,
    fun b n => Method.memRead_of_outside (m := m)⟩
  case unit =>
    obtain ⟨lt, rfl⟩ := List.getElem?_eq_some_iff.1 hu
    exact info.toMethod_unit sh k lt
  case bytes =>
    have digit (j : Nat) : (m.code.byte (b + j)).toNat = byte (b + j) := Memory.toNat_byte_ofUnits info.units (b + j)
    rw [Method.memRead_of_inside inside, Memory.little_eq_sum]
    simp only [digit]

end Sys2Proof.Machine
end

section
/-! The formats as layouts: what each writes for its fields, and that the decoder reads and the encoder writes exactly
that (spec/30_encoding.md R120, R127 to R129, R135 to R158). -/

namespace Sys2Proof

open Sys2Proof.Laws Sys2Proof.Machine

/-! ### The fields of a unit put together again -/

theorem unit8_highByte_lowByte (u : CodeUnit) : unit8 (highByte u) (lowByte u) = u := highByte_append_lowByte u

theorem nibble_append_nibble (k : Nat) (u : CodeUnit) :
    nibble (k + 1) u ++ nibble k u = u.extractLsb' (4 * k) 8 :=
  BitVec.extractLsb'_append_extractLsb'_eq_extractLsb' (Nat.mul_succ 4 k)

theorem unit4_nibbles_lowByte (u : CodeUnit) : unit4 (nibble 3 u) (nibble 2 u) (lowByte u) = u := by
  rw [unit4, nibble_append_nibble]
  exact unit8_highByte_lowByte u

/-- The four argument registers of format 35c (R156). -/
theorem nibbles_append (u : CodeUnit) : nibble 3 u ++ nibble 2 u ++ nibble 1 u ++ nibble 0 u = u := by
  rw [nibble_append_nibble, BitVec.append_assoc, nibble_append_nibble]
  exact unit8_highByte_lowByte u

/-- A 32-bit field is the high unit over the low one (R85). -/
theorem units32_append (hi lo : CodeUnit) : units32 (hi ++ lo) = [lo, hi] := by
  have high : (hi ++ lo).extractLsb' 16 16 = hi :=
    (extractLsb'_append_high 0 16 hi lo).trans (BitVec.extractLsb'_eq_self ..)
  rw [units32, high, extractLsb'_append_low]

theorem append_halves (v : BitVec 32) : v.extractLsb' 16 16 ++ v.extractLsb' 0 16 = v :=
  (BitVec.extractLsb'_append_extractLsb'_eq_extractLsb' rfl).trans (BitVec.extractLsb'_eq_self ..)

/-- A 64-bit field is its four units, the first one lowest (R85). -/
theorem units64_append (u1 u2 u3 u4 : CodeUnit) : units64 (u4 ++ u3 ++ u2 ++ u1) = [u1, u2, u3, u4] := by
  have second : (u4 ++ u3 ++ u2 ++ u1).extractLsb' 16 16 = u2 :=
    (extractLsb'_append_high 0 16 _ u1).trans (extractLsb'_append_low ..)
  have third : (u4 ++ u3 ++ u2 ++ u1).extractLsb' 32 16 = u3 :=
    ((extractLsb'_append_high 16 16 _ u1).trans (extractLsb'_append_high 0 16 _ u2)).trans (extractLsb'_append_low ..)
  have fourth : (u4 ++ u3 ++ u2 ++ u1).extractLsb' 48 16 = u4 :=
    (((extractLsb'_append_high 32 16 _ u1).trans (extractLsb'_append_high 16 16 _ u2)).trans
      (extractLsb'_append_high 0 16 _ u3)).trans (BitVec.extractLsb'_eq_self ..)
  rw [units64, second, third, fourth, extractLsb'_append_low]

theorem append_quarters (v : BitVec 64) :
    v.extractLsb' 48 16 ++ v.extractLsb' 32 16 ++ v.extractLsb' 16 16 ++ v.extractLsb' 0 16 = v := by
  rw [BitVec.extractLsb'_append_extractLsb'_eq_extractLsb' (show 48 = 32 + 16 from rfl),
    BitVec.extractLsb'_append_extractLsb'_eq_extractLsb' (show 32 = 16 + 16 from rfl),
    BitVec.extractLsb'_append_extractLsb'_eq_extractLsb' (show 16 = 0 + 16 from rfl)]
  exact BitVec.extractLsb'_eq_self ..

section
variable (f e d c : BitVec 4)

@[simp] theorem nibble0_nibbles : nibble 0 (f ++ e ++ d ++ c) = c := extractLsb'_append_low _ c

@[simp] theorem nibble1_nibbles : nibble 1 (f ++ e ++ d ++ c) = d :=
  (extractLsb'_append_high 0 4 _ c).trans (extractLsb'_append_low _ d)

@[simp] theorem nibble2_nibbles : nibble 2 (f ++ e ++ d ++ c) = e :=
  ((extractLsb'_append_high 4 4 _ c).trans (extractLsb'_append_high 0 4 _ d)).trans (extractLsb'_append_low f e)

@[simp] theorem nibble3_nibbles : nibble 3 (f ++ e ++ d ++ c) = f :=
  (((extractLsb'_append_high 8 4 _ c).trans (extractLsb'_append_high 4 4 _ d)).trans
    (extractLsb'_append_high 0 4 f e)).trans (BitVec.extractLsb'_eq_self ..)

end

/-! ### What a format writes -/

/-- `sh.Writes op i us`: in the format of `sh`, under the opcode `op`, the units `us` stand for the instruction `i` that
`sh` makes of their fields, with reserved bits zero. -/
inductive Shape.Writes (op : BitVec 8) : Shape → Instr → List CodeUnit → Prop
  | f10x (mk) : Writes op (.f10x mk) mk [unit8 0#8 op]
  | f12x (mk a b) : Writes op (.f12x mk) (mk a b) [unit4 b a op]
  | f11n (mk a b) : Writes op (.f11n mk) (mk a b) [unit4 b a op]
  | f11x (mk aa) : Writes op (.f11x mk) (mk aa) [unit8 aa op]
  | f10t (mk aa) : Writes op (.f10t mk) (mk aa) [unit8 aa op]
  | f20t (mk aaaa) : Writes op (.f20t mk) (mk aaaa) [unit8 0#8 op, aaaa]
  | f22x (mk aa bbbb) : Writes op (.f22x mk) (mk aa bbbb) [unit8 aa op, bbbb]
  | f21t (mk aa bbbb) : Writes op (.f21t mk) (mk aa bbbb) [unit8 aa op, bbbb]
  | f21s (mk aa bbbb) : Writes op (.f21s mk) (mk aa bbbb) [unit8 aa op, bbbb]
  | f21h (mk aa bbbb) : Writes op (.f21h mk) (mk aa bbbb) [unit8 aa op, bbbb]
  | f21c (mk aa bbbb) : Writes op (.f21c mk) (mk aa bbbb) [unit8 aa op, bbbb]
  | f23x (mk aa bb cc) : Writes op (.f23x mk) (mk aa bb cc) [unit8 aa op, unit8 cc bb]
  | f22b (mk aa bb cc) : Writes op (.f22b mk) (mk aa bb cc) [unit8 aa op, unit8 cc bb]
  | f22t (mk a b cccc) : Writes op (.f22t mk) (mk a b cccc) [unit4 b a op, cccc]
  | f22s (mk a b cccc) : Writes op (.f22s mk) (mk a b cccc) [unit4 b a op, cccc]
  | f22c (mk a b cccc) : Writes op (.f22c mk) (mk a b cccc) [unit4 b a op, cccc]
  | f32x (mk aaaa bbbb) : Writes op (.f32x mk) (mk aaaa bbbb) [unit8 0#8 op, aaaa, bbbb]
  | f30t (mk v) : Writes op (.f30t mk) (mk v) (unit8 0#8 op :: units32 v)
  | f31t (mk aa v) : Writes op (.f31t mk) (mk aa v) (unit8 aa op :: units32 v)
  | f31i (mk aa v) : Writes op (.f31i mk) (mk aa v) (unit8 aa op :: units32 v)
  | f31c (mk aa v) : Writes op (.f31c mk) (mk aa v) (unit8 aa op :: units32 v)
  | f35c (mk a bbbb c d e f g) : Writes op (.f35c mk) (mk a bbbb c d e f g) (encode35c op a bbbb c d e f g)
  | f3rc (mk aa bbbb cccc) : Writes op (.f3rc mk) (mk aa bbbb cccc) [unit8 aa op, bbbb, cccc]
  | f51l (mk aa v) : Writes op (.f51l mk) (mk aa v) (unit8 aa op :: units64 v)
  | trap (mk) : Writes op (.trap mk) mk [unit8 0#8 op]

/-- What the format writes under `op` is what the encoder writes. -/
def Shape.Encoded (sh : Shape) (op : BitVec 8) : Prop := ∀ i us, sh.Writes op i us → encode i = us

theorem opcodeTable_encoded : ∀ p ∈ opcodeTable.zipIdx, p.1.Encoded (BitVec.ofNat 8 p.2) := by
  have entries : List.Forall (fun p : Shape × Nat => p.1.Encoded (BitVec.ofNat 8 p.2)) opcodeTable.zipIdx := by
    repeat' constructor
    all_goals
      intro i us h
      cases h
      rfl
  exact List.forall_iff_forall_mem.1 entries

set_option maxRecDepth 10000 in
theorem opcodeTable_length : opcodeTable.length = 256 := rfl

theorem shapeOf_encoded (op : BitVec 8) : (shapeOf op).Encoded op := by
  have inside : op.toNat < opcodeTable.length := op.isLt.trans_eq opcodeTable_length.symm
  have listed : (opcodeTable[op.toNat], op.toNat) ∈ opcodeTable.zipIdx := List.mk_mem_zipIdx_iff_getElem?.2 (by simp)
  have entry := opcodeTable_encoded _ listed
  rwa [BitVec.ofNat_toNat, BitVec.setWidth_eq, ← List.getD_eq_getElem _ (.trap .nop) inside] at entry

/-! ### The decoder -/

theorem Shape.len_le_five (sh : Shape) : sh.len ≤ 5 := by cases sh <;> exact Nat.le_of_ble_eq_true rfl

/-- The decoder reads a first unit with as many behind it as its opcode's format needs, and nothing else (R172, R173). -/
theorem decode_cons_ok_iff {u : CodeUnit} {rest : List CodeUnit} {i : Instr} : decode (u :: rest) = .ok i ↔
    (shapeOf (lowByte u)).len ≤ rest.length + 1 ∧
      (shapeOf (lowByte u)).build u (rest.getD 0 0) (rest.getD 1 0) (rest.getD 2 0) (rest.getD 3 0) = i := by
  simp only [decode]
  split
  next short => simp [Nat.not_le.2 short]
  next enough => simp [Nat.not_lt.1 enough]

/-- The first units of a list, read one by one as the decoder reads them. -/
theorem take_getD {n : Nat} {rest : List CodeUnit} (short : n ≤ 4) (enough : n ≤ rest.length) :
    [rest.getD 0 0, rest.getD 1 0, rest.getD 2 0, rest.getD 3 0].take n = rest.take n := by
  change ((List.range 4).map (rest.getD · 0)).take n = _
  rw [← List.map_take, List.take_range, Nat.min_eq_left short]
  refine List.ext_getElem (by simpa using enough) fun k at_range _ => ?_
  have lt : k < rest.length := (at_range.trans_eq (by simp)).trans_le enough
  simp [lt]

/-! ### Decoding what was encoded -/

/-- The decoder reads back the fields that a format writes. -/
theorem Shape.Writes.decodes {op : BitVec 8} {sh : Shape} {i : Instr} {us : List CodeUnit} (h : sh.Writes op i us)
    (hs : shapeOf op = sh) : decode us = .ok i := by
  cases h with
  | f10x | trap | f12x | f11n | f11x | f10t | f20t | f22x | f21t | f21s | f21h | f21c | f23x | f22b | f22t | f22s
    | f22c | f32x | f3rc => simp [decode_cons_ok_iff, hs, Shape.len, Shape.build]
  | f30t | f31t | f31i | f31c => simp [decode_cons_ok_iff, hs, Shape.len, Shape.build, units32, append_halves]
  | f35c => simp [decode_cons_ok_iff, hs, Shape.len, Shape.build, encode35c]
  | f51l => simp [decode_cons_ok_iff, hs, Shape.len, Shape.build, units64, append_quarters]

/-- The encoding is what the format of some opcode writes. -/
def Instr.Written (i : Instr) : Prop := ∃ op, (shapeOf op).Writes op i (encode i)

theorem Instr.Written.of_writes {op : BitVec 8} {sh : Shape} {i : Instr} {us : List CodeUnit} (h : sh.Writes op i us)
    (he : encode i = us) (hs : shapeOf op = sh) : i.Written :=
  ⟨op, by rwa [hs, he]⟩

theorem Instr.written (i : Instr) : i.Written := by
  cases i with
  | nop | returnVoid => exact .of_writes (.f10x _) rfl rfl
  | unused3e | unused3f | unused40 | unused41 | unused42 | unused43 | unused73 | unused79 | unused7a | unusedE3
    | unusedE4 | unusedE5 | unusedE6 | unusedE7 | unusedE8 | unusedE9 | unusedEa | unusedEb | unusedEc
    | unusedEd | unusedEe | unusedEf | unusedF0 | unusedF1 | unusedF2 | unusedF3 | unusedF4 | unusedF5
    | unusedF6 | unusedF7 | unusedF8 | unusedF9 | unusedFa | unusedFb | unusedFc | unusedFd | unusedFe
    | unusedFf => exact .of_writes (.trap _) rfl rfl
  | move | moveWide | moveObject | arrayLength | negInt | notInt | negLong | notLong | negFloat | negDouble
    | intToLong | intToFloat | intToDouble | longToInt | longToFloat | longToDouble | floatToInt | floatToLong
    | floatToDouble | doubleToInt | doubleToLong | doubleToFloat | intToByte | intToChar | intToShort
    | addInt2addr | subInt2addr | mulInt2addr | divInt2addr | remInt2addr | andInt2addr | orInt2addr
    | xorInt2addr | shlInt2addr | shrInt2addr | ushrInt2addr | addLong2addr | subLong2addr | mulLong2addr
    | divLong2addr | remLong2addr | andLong2addr | orLong2addr | xorLong2addr | shlLong2addr | shrLong2addr
    | ushrLong2addr | addFloat2addr | subFloat2addr | mulFloat2addr | divFloat2addr | remFloat2addr
    | addDouble2addr | subDouble2addr | mulDouble2addr | divDouble2addr | remDouble2addr =>
    exact .of_writes (.f12x _ _ _) rfl rfl
  | const4 => exact .of_writes (.f11n _ _ _) rfl rfl
  | moveResult | moveResultWide | moveResultObject | moveException | returnVal | returnWide | returnObject
    | monitorEnter | monitorExit | throwObj => exact .of_writes (.f11x _ _) rfl rfl
  | goto => exact .of_writes (.f10t _ _) rfl rfl
  | goto16 => exact .of_writes (.f20t _ _) rfl rfl
  | moveFrom16 | moveWideFrom16 | moveObjectFrom16 => exact .of_writes (.f22x _ _ _) rfl rfl
  | ifEqz | ifNez | ifLtz | ifGez | ifGtz | ifLez => exact .of_writes (.f21t _ _ _) rfl rfl
  | const16 | constWide16 => exact .of_writes (.f21s _ _ _) rfl rfl
  | constHigh16 | constWideHigh16 => exact .of_writes (.f21h _ _ _) rfl rfl
  | constString | constClass | checkCast | newInstance | sget | sgetWide | sgetObject | sgetBoolean | sgetByte
    | sgetChar | sgetShort | sput | sputWide | sputObject | sputBoolean | sputByte | sputChar | sputShort =>
    exact .of_writes (.f21c _ _ _) rfl rfl
  | cmplFloat | cmpgFloat | cmplDouble | cmpgDouble | cmpLong | aget | agetWide | agetObject | agetBoolean
    | agetByte | agetChar | agetShort | aput | aputWide | aputObject | aputBoolean | aputByte | aputChar
    | aputShort | addInt | subInt | mulInt | divInt | remInt | andInt | orInt | xorInt | shlInt | shrInt
    | ushrInt | addLong | subLong | mulLong | divLong | remLong | andLong | orLong | xorLong | shlLong | shrLong
    | ushrLong | addFloat | subFloat | mulFloat | divFloat | remFloat | addDouble | subDouble | mulDouble
    | divDouble | remDouble => exact .of_writes (.f23x _ _ _ _) rfl rfl
  | addIntLit8 | rsubIntLit8 | mulIntLit8 | divIntLit8 | remIntLit8 | andIntLit8 | orIntLit8 | xorIntLit8
    | shlIntLit8 | shrIntLit8 | ushrIntLit8 => exact .of_writes (.f22b _ _ _ _) rfl rfl
  | ifEq | ifNe | ifLt | ifGe | ifGt | ifLe => exact .of_writes (.f22t _ _ _ _) rfl rfl
  | addIntLit16 | rsubInt | mulIntLit16 | divIntLit16 | remIntLit16 | andIntLit16 | orIntLit16 | xorIntLit16 =>
    exact .of_writes (.f22s _ _ _ _) rfl rfl
  | instanceOf | newArray | iget | igetWide | igetObject | igetBoolean | igetByte | igetChar | igetShort | iput
    | iputWide | iputObject | iputBoolean | iputByte | iputChar | iputShort =>
    exact .of_writes (.f22c _ _ _ _) rfl rfl
  | move16 | moveWide16 | moveObject16 => exact .of_writes (.f32x _ _ _) rfl rfl
  | goto32 => exact .of_writes (.f30t _ _) rfl rfl
  | fillArrayData | packedSwitch | sparseSwitch => exact .of_writes (.f31t _ _ _) rfl rfl
  | const32 | constWide32 => exact .of_writes (.f31i _ _ _) rfl rfl
  | constStringJumbo => exact .of_writes (.f31c _ _ _) rfl rfl
  | filledNewArray | invokeVirtual | invokeSuper | invokeDirect | invokeStatic | invokeInterface =>
    exact .of_writes (.f35c _ _ _ _ _ _ _ _) rfl rfl
  | filledNewArrayRange | invokeVirtualRange | invokeSuperRange | invokeDirectRange | invokeStaticRange
    | invokeInterfaceRange => exact .of_writes (.f3rc _ _ _ _) rfl rfl
  | constWide => exact .of_writes (.f51l _ _ _) rfl rfl

/-- Settles O2: the encoding is in the format of its opcode, whose fields the decoder reads back. -/
theorem decodeEncode : Obligations.DecodeEncode := by
  intro i
  obtain ⟨op, written⟩ := i.written
  exact written.decodes rfl

/-! ### Encoding what was decoded -/

/-- The format has no field in the high byte of its first unit: the byte is reserved (R129) or the opcode unassigned
(R128). -/
def Shape.ignoresHigh : Shape → Bool
  | .f10x _ | .f20t _ | .f32x _ | .f30t _ | .trap _ => true
  | _ => false

/-- The first unit as the encoder writes it again. -/
def Shape.firstUnit (sh : Shape) (u : CodeUnit) : CodeUnit := if sh.ignoresHigh then 0#8 ++ lowByte u else u

theorem Shape.build_of_ignoresHigh {sh : Shape} (h : sh.ignoresHigh) (u v u1 u2 u3 u4 : CodeUnit) :
    sh.build u u1 u2 u3 u4 = sh.build v u1 u2 u3 u4 := by
  cases sh with
  | f10x | f20t | f32x | f30t | trap => rfl
  | _ => cases h

section
variable {sh : Shape} {u : CodeUnit} {us : List CodeUnit} {i : Instr}

theorem Shape.Writes.byteField (h : sh.Writes (lowByte u) i (unit8 (highByte u) (lowByte u) :: us)) :
    sh.Writes (lowByte u) i (u :: us) := by
  rwa [unit8_highByte_lowByte] at h

theorem Shape.Writes.nibbleFields (h : sh.Writes (lowByte u) i (unit4 (nibble 3 u) (nibble 2 u) (lowByte u) :: us)) :
    sh.Writes (lowByte u) i (u :: us) := by
  rwa [unit4_nibbles_lowByte] at h

theorem Shape.Writes.tail {op : BitVec 8} {us' : List CodeUnit} (h : sh.Writes op i (u :: us')) (same : us' = us) :
    sh.Writes op i (u :: us) := same ▸ h

end

/-- The fields that a format reads from units are the ones it writes as those units. -/
theorem Shape.writes_build (sh : Shape) (u0 u1 u2 u3 u4 : CodeUnit) :
    sh.Writes (lowByte u0) (sh.build u0 u1 u2 u3 u4) ((sh.firstUnit u0 :: [u1, u2, u3, u4]).take sh.len) := by
  cases sh with
  | f10x | trap | f20t | f32x => constructor
  | f11x | f10t | f22x | f21t | f21s | f21h | f21c | f3rc => exact .byteField (by constructor)
  | f12x | f11n | f22t | f22s | f22c => exact .nibbleFields (by constructor)
  | f23x | f22b => exact .byteField (.tail (by constructor) (congrArg ([·]) (unit8_highByte_lowByte u1)))
  | f30t => exact .tail (by constructor) (units32_append u2 u1)
  | f31t | f31i | f31c => exact .byteField (.tail (by constructor) (units32_append u2 u1))
  | f35c => exact .nibbleFields (.tail (by constructor) (congrArg ([u1, ·]) (nibbles_append u2)))
  | f51l => exact .byteField (.tail (by constructor) (units64_append u1 u2 u3 u4))

/-- The encoding of what was decoded: the units read, the first one with its reserved byte zero. -/
theorem encode_of_decode {u : CodeUnit} {rest : List CodeUnit} {i : Instr} (h : decode (u :: rest) = .ok i) :
    encode i = ((shapeOf (lowByte u)).firstUnit u :: rest).take (shapeOf (lowByte u)).len := by
  obtain ⟨enough, rfl⟩ := decode_cons_ok_iff.1 h
  rw [shapeOf_encoded _ _ _ (Shape.writes_build ..)]
  obtain ⟨n, len⟩ := Nat.exists_eq_succ_of_ne_zero (Shape.len_pos (shapeOf (lowByte u))).ne'
  have short := (shapeOf (lowByte u)).len_le_five
  rw [len, List.take_succ_cons, List.take_succ_cons, take_getD (by omega) (by omega)]

/-- The decoder does not look at the high byte of a format that ignores it. -/
theorem decode_ignoresHigh {u v : CodeUnit} {rest : List CodeUnit} (same : lowByte v = lowByte u)
    (h : (shapeOf (lowByte u)).ignoresHigh) : decode (v :: rest) = decode (u :: rest) := by
  simp only [decode, same, Shape.build_of_ignoresHigh h v u]

/-- Settles O3: by whether the format ignores the high byte of its first unit. -/
theorem encodeDecode : Obligations.EncodeDecode := by
  intro u rest i decoded
  have encoded := encode_of_decode decoded
  cases ignored : (shapeOf (lowByte u)).ignoresHigh with
  | false =>
    rw [Shape.firstUnit, ignored] at encoded
    exact .inl encoded
  | true =>
    rw [Shape.firstUnit, ignored] at encoded
    exact .inr ⟨encoded, fun hi => (decode_ignoresHigh (lowByte_unit8 hi _) ignored).trans decoded⟩

end Sys2Proof
end

section
/-! A fetch that runs off the stream (spec/30_encoding.md R125, spec/40_dispatch.md R171, R173). -/

namespace Sys2Proof.Machine

theorem Method.unit_of_inside {m : Method} {k : Nat} (h : k < m.len) : ∃ u, m.unit k = .ok u :=
  ⟨_, if_pos (by omega)⟩

/-- The first unit outside the stream is the one at its end. -/
theorem Method.unitsFrom_past {m : Method} {k n : Nat} (inside : k ≤ m.len) (past : m.len < k + n) :
    m.unitsFrom k n = .error (.pcRange m.len) := by
  induction n generalizing k with
  | zero => omega
  | succ n ih =>
    rcases inside.eq_or_lt with rfl | lt
    · rw [Method.unitsFrom, Method.unit_of_outside (.inr le_rfl)]
    · obtain ⟨u, hu⟩ := Method.unit_of_inside lt
      rw [Method.unitsFrom, hu, ih lt (by omega)]

theorem Method.fetch_outside {m : Method} {pc : Nat} (h : m.len ≤ pc) : m.fetch pc = .error (.pcRange pc) := by
  rw [Method.fetch, Method.unit_of_outside (.inr (by omega))]

theorem Method.fetch_truncated {m : Method} {pc : Nat} {u : CodeUnit} (first : m.unit pc = .ok u)
    (past : m.len < pc + (shapeOf (lowByte u)).len) : m.fetch pc = .error (.pcRange m.len) := by
  rw [Method.fetch, first]
  simp only [Method.unitsFrom_past (unit_ok_lt first).le past]

/-- Settles O5: the cursor outside the stream, or inside it with the last unit outside. -/
theorem fetchOffTheEnd : Obligations.FetchOffTheEnd := by
  intro s a rest running top st
  exact ⟨fun outside => step_run_fault running top st (Method.fetch_outside outside),
    fun u first past => step_run_fault running top st (Method.fetch_truncated first past)⟩

end Sys2Proof.Machine
end

section
/-! Sample words (spec/30_encoding.md R127, R135 to R158). -/

namespace Sys2Proof

/-- Settles O1: fourteen words are encodings; the last has its reserved byte set. -/
theorem sampleWordsDecode : Obligations.SampleWordsDecode :=
  ⟨decodeEncode (.move 2 1), decodeEncode (.moveFrom16 5 0x100), decodeEncode (.const4 1 0xf),
    decodeEncode (.constWide 0 0x0123456789abcdef), decodeEncode (.addInt 0 1 2), decodeEncode (.addInt2addr 0 1),
    decodeEncode (.ushrIntLit8 1 2 0xff), decodeEncode (.addFloat 0 1 2), decodeEncode (.ifEq 1 2 4),
    decodeEncode (.goto32 0xfffffffd), decodeEncode (.aget 0 1 2), decodeEncode (.iget 0 1 7),
    decodeEncode (.invokeVirtual 4 7 3 4 5 6 1), decodeEncode (.invokeStaticRange 2 7 3), rfl⟩

end Sys2Proof
end

section
/-! One step of the engine: the fetched instruction, the traps, the relative jump, and the end of a chain
(spec/40_dispatch.md R170 to R182). -/

namespace Sys2Proof.Machine

/-! ### The fetched instruction (R171 to R173) -/

/-- The units at an offset, read in order. -/
theorem Method.unitsFrom_eq_take {m : Method} {us : List CodeUnit} {n : Nat} :
    ∀ {k : Nat}, (∀ j u, us[j]? = some u → m.unit ((k + j : Nat) : Int) = .ok u) → n ≤ us.length →
      m.unitsFrom k n = .ok (us.take n) := by
  induction n generalizing us with
  | zero => exact fun _ _ => rfl
  | succ n ih =>
    intro k stream enough
    cases us with
    | nil => simp at enough
    | cons u us =>
      have first : m.unit (k : Int) = .ok u := stream 0 u rfl
      have later : m.unitsFrom (k + 1) n = .ok (us.take n) :=
        ih (fun j v hv => by rw [Nat.add_right_comm]; exact stream (j + 1) v hv) (Nat.le_of_succ_le_succ enough)
      rw [Method.unitsFrom, first, later]
      rfl

/-- The decoder does not look past the units of its format (R173). -/
theorem decode_take {u : CodeUnit} {rest : List CodeUnit} {i : Instr} (h : decode (u :: rest) = .ok i) :
    decode ((u :: rest).take (shapeOf (lowByte u)).len) = .ok i := by
  have again : decode (encode i) = .ok i := decodeEncode i
  obtain ⟨n, len⟩ := Nat.exists_eq_succ_of_ne_zero (Shape.len_pos (shapeOf (lowByte u))).ne'
  rw [encode_of_decode h, len, List.take_succ_cons, Shape.firstUnit] at again
  rw [len, List.take_succ_cons]
  split at again
  next ignored => exact (decode_ignoresHigh (Laws.lowByte_unit8 0 _) ignored).symm.trans again
  next => exact again

/-- What the units at the cursor decode to is fetched there. -/
theorem Method.fetch_of_decode {m : Method} {pc : Nat} {us : List CodeUnit} {i : Instr}
    (stream : ∀ k u, us[k]? = some u → m.unit ((pc + k : Nat) : Int) = .ok u) (h : decode us = .ok i) :
    m.fetch pc = .ok i := by
  cases us with
  | nil => cases h
  | cons u rest =>
    have first : m.unit (pc : Int) = .ok u := stream 0 u rfl
    have units := m.unitsFrom_eq_take stream (decode_cons_ok_iff.1 h).1
    rw [Method.fetch, first]
    dsimp only
    rw [units]
    dsimp only
    rw [decode_take h]

/-- Settles O4. -/
theorem stepRunsDecoded : Obligations.StepRunsDecoded := fun _ _ _ _ _ running top st stream decoded =>
  step_run running top st (Method.fetch_of_decode stream decoded)

/-! ### Handlers that fault at once (R128, R179) and the relative jump (R176) -/

section
variable {s : State} {a : Activation} {rest : List Activation}

theorem trap_faults (op : BitVec 8) (hs : s.stack = a :: rest) :
    runTop (trap op) s = faults s (.unknownOpcode op a.pc) := runTop_faultsAt (p := s.ports) hs rfl

theorem jump_becomes {off : Int} (hs : s.stack = a :: rest)
    (inside : 0 ≤ (a.pc : Int) + off ∧ (a.pc : Int) + off ≤ a.method.len) :
    runTop (jump off) s = becomes s rest (a.atPc (a.pc + off)) :=
  runTop_becomes hs ((jump_run off _).trans (if_pos inside))

theorem jump_faults {off : Int} (hs : s.stack = a :: rest)
    (outside : (a.pc : Int) + off < 0 ∨ (a.method.len : Int) < a.pc + off) :
    runTop (jump off) s = faults s (.pcRange (a.pc + off)) :=
  runTop_faultsAt (p := s.ports) hs ((jump_run off _).trans (if_neg (by dsimp only [Ctx.enter_top]; omega)))

end

/-- Settles O12: each of the 38 runs the trap handler with its opcode. -/
theorem unassignedTrap : Obligations.UnassignedTrap := by
  intro s a rest hs
  constructorm* _ ∧ _ <;> exact trap_faults _ hs

/-- Settles O33: the three gotos are one jump. -/
theorem gotoJumps : Obligations.GotoJumps := fun _ _ _ hs =>
  ⟨fun _ => ⟨jump_becomes hs, jump_faults hs⟩, fun _ => ⟨jump_becomes hs, jump_faults hs⟩,
    fun _ => ⟨jump_becomes hs, jump_faults hs⟩⟩

/-! ### A host call that goes on (R563, R705) -/

section
variable {call : StagedCall} {c : Ctx} {p p' : Ports}

theorem awaitCall_returns {bits : Word64} (h : callAnswer c.ports = (.returns bits, p)) :
    awaitCall call c = .ok () { c with
      top := { c.top.putResult (hostResult call.ret bits) with st := .run, inv := .idle, pc := c.top.pc + 3 }
      ports := p } := by
  simp [awaitCall, Activation.advance, h]

theorem awaitCall_fails {e : Handle} (h : callAnswer c.ports = (.fails e, p)) :
    awaitCall call c = .error (.raised e) { c with ports := p } := by
  simp [awaitCall, exceptionObject, h]

theorem awaitCall_reenters {entry : EntryCall} {b : Activation} (h : callAnswer c.ports = (.reenters entry, p))
    (started : startChain c.params.maxDepth c.depth entry p = (.ok b, p')) :
    awaitCall call c = .ok () { c with
      top := { c.top with st := .run, inv := .idle }
      callee := some b
      ports := { p' with calls := call :: p'.calls } } := by
  simp [awaitCall, holdCall, h, started]

theorem awaitCall_faults {entry : EntryCall} {f : EngineFault} (h : callAnswer c.ports = (.reenters entry, p))
    (refused : startChain c.params.maxDepth c.depth entry p = (.error f, p')) :
    awaitCall call c = .error (.faulted f) { c with ports := p' } := by
  simp [awaitCall, h, refused]

/-- The host's exception-raised state, which the end of the chain has set, is picked up (R604, R631). -/
theorem resumeCall_fails {e x : Handle} (h : c.ports.hostExc = some x) :
    resumeCall call (.fails e) c = .error (.raised e) { c with ports := { c.ports with
      hostExc := none, issued := .exceptionClear :: .exceptionOccurred :: c.ports.issued } } := by
  simp [resumeCall, exceptionObject, pickUp_raised h]

end

/-! ### The end of a chain that the host started (R182, R568, R631) -/

theorem hostStarted_of_not_waiting {b : Activation} (below : List Activation) (h : ∀ c, b.inv ≠ .callInterpreted c) :
    hostStarted (b :: below) = true := by
  cases hi : b.inv with
  | callInterpreted c => exact absurd hi (h c)
  | _ => simp [hostStarted, Activation.awaitsCallee, hi]

section
variable {s : State} {a : Activation} {rest : List Activation}

theorem step_delivers (hf : s.fault = none) (hs : s.stack = a :: rest) (host : hostStarted rest = true)
    (st : a.st = .finished) : step s =
      chainEnded { s with stack := rest, ports := { s.ports with delivered := some (.returned a.ret) } } (.ok ()) := by
  rw [step_finished hf hs st, deliver, if_pos host]

theorem step_propagates {e : Handle} {p : Ports} (hf : s.fault = none) (hs : s.stack = a :: rest)
    (host : hostStarted rest = true) (st : a.st = .throwing) (exc : a.exc = some e)
    (missed : a.findHandler e s.ports = (none, p)) : step s = chainEnded { s with
      stack := rest
      ports := { p with hostExc := some e, delivered := some (.raised e), issued := .throwHandle e :: p.issued } }
      (.fails e) := by
  rw [step_throwing hf hs st exc, unwind, missed]
  exact if_pos host

/-- The state in which the newest outstanding host call goes on: the activation of its invoke, which stands above
`below`, is on top again, and the host has the result of the chain. -/
def State.resumed (s : State) (r : ReturnValue) (b : Activation) (below : List Activation) (calls : List StagedCall) :
    State :=
  { s with stack := b :: below, ports := { s.ports with delivered := some (.returned r), calls := calls } }

theorem step_resumes {b : Activation} {below : List Activation} {call : StagedCall} {calls : List StagedCall}
    (hf : s.fault = none) (hs : s.stack = a :: b :: below) (host : hostStarted (b :: below) = true)
    (outstanding : s.ports.calls = call :: calls) (st : a.st = .finished) :
    step s = runTop (awaitCall call) (s.resumed a.ret b below calls) :=
  (step_delivers hf hs host st).trans (chainEnded_call (.ok ()) rfl outstanding)

end

/-- Settles O53: with nothing below, the run is over; else the newest outstanding host call goes on. -/
theorem chainEnds : Obligations.ChainEnds := by
  refine ⟨fun s a hf hs => ⟨fun st => ?_, fun e p st exc missed => ?_⟩, ?_⟩
  · rw [step_delivers hf hs rfl st, chainEnded_last _ rfl]
  · rw [step_propagates hf hs rfl st exc missed, chainEnded_last _ rfl]
  intro s a b below call calls hf hs notWaiting outstanding
  have host := hostStarted_of_not_waiting below notWaiting
  refine ⟨fun st => ?_, fun e p st exc missed => ?_⟩
  · have goesOn := step_resumes hf hs host outstanding st
    have onTop : (s.resumed a.ret b below calls).stack = b :: below := rfl
    exact ⟨fun _ _ answer => goesOn.trans (runTop_ok onTop (awaitCall_returns answer)),
      fun _ _ answer => goesOn.trans (runTop_raised onTop (awaitCall_fails answer)),
      fun _ _ _ _ answer started => goesOn.trans (runTop_ok onTop (awaitCall_reenters answer started)),
      fun _ _ _ _ answer refused => goesOn.trans (runTop_faultsAt onTop (awaitCall_faults answer refused))⟩
  · obtain ⟨-, -, -, kept⟩ := quiet_findHandler a e s.ports
    rw [missed] at kept
    rw [step_propagates hf hs host st exc missed, chainEnded_call _ rfl (kept.trans outstanding)]
    exact runTop_raised rfl (resumeCall_fails rfl)

end Sys2Proof.Machine
end

section
/-! What an instruction may change in its activation, and what a raise out of it leaves (spec/40_dispatch.md R180, R181,
spec/60_exceptions.md R602, R604, R605): the parts of a handler, then its endings. -/

namespace Sys2Proof.Machine

/-! ### What may change -/

/-- `b` is `a` after the instruction `i` has completed, as far as R180 goes: registers, RV and EXC are written only
where `i` may write them. An instruction that completes does not leave its activation THROWING. -/
structure Activation.Within (i : Instr) (a b : Activation) : Prop where
  regs : ∀ r, r ∉ i.dests → b.regs[r]? = a.regs[r]?
  rv : i.writesRV = false → b.rv = a.rv ∧ b.rvw = a.rvw
  exc : b.exc = a.exc ∨ ∃ d, i = .moveException d
  st : b.st = .throwing → a.st = .throwing

/-- How a part of a handler of `i` may end that starts on the activation `a`: it goes on with one that `D` relates to
`a`, or raises with the cursor still at pc0, past it only in monitor-exit (R457). Where `clear` holds, the host's
exception-raised state stays clear; what is raised has been picked up (R604), but for the object of a throw. -/
def PreciseFrom {α : Type} (clear : Prop) (i : Instr) (D : Activation → Activation → Prop) (a : Activation) :
    EStateM.Result Ended Ctx α → Prop
  | .ok _ d => D a d.top ∧ (clear → d.ports.hostExc = none)
  | .error (.raised _) d => (d.top.pc = a.pc ∨ d.top.pc = a.pc + 1 ∧ ∃ r, i = .monitorExit r) ∧
      ((clear ∨ ∀ r, i ≠ .throwObj r) → d.ports.hostExc = none)
  | .error _ _ => True

/-- A part of a handler of `i` that ends so wherever it starts; `clear` says that it starts with the host's
exception-raised state clear. -/
def Precise {α : Type} (clear : Prop) (i : Instr) (D : Activation → Activation → Prop) (x : Handler α) : Prop :=
  ∀ c : Ctx, (clear → c.ports.hostExc = none) → PreciseFrom clear i D c.top (x c)

section
variable {i : Instr}

theorem Activation.Within.refl (a : Activation) : a.Within i a := ⟨fun _ _ => rfl, fun _ => ⟨rfl, rfl⟩, .inl rfl, id⟩

theorem Activation.Within.trans {a b c : Activation} (h : a.Within i b) (g : b.Within i c) : a.Within i c where
  regs r hr := (g.regs r hr).trans (h.regs r hr)
  rv hi := ⟨(g.rv hi).1.trans (h.rv hi).1, (g.rv hi).2.trans (h.rv hi).2⟩
  exc := g.exc.elim (fun e => h.exc.imp_left e.trans) .inr
  st := h.st ∘ g.st

theorem Activation.within_advance (a : Activation) (n : Nat) : a.Within i (a.advance n) :=
  ⟨fun _ _ => rfl, fun _ => ⟨rfl, rfl⟩, .inl rfl, id⟩

theorem Activation.within_putSlot {d : Nat} (hd : d ∈ i.dests) (a : Activation) (w : Word64) :
    a.Within i (a.putSlot d w) where
  regs _ hr := List.getElem?_set_ne (ne_of_mem_of_not_mem hd hr)
  rv _ := ⟨rfl, rfl⟩
  exc := .inl rfl
  st := id

theorem Activation.within_putI64 {d : Nat} (hd : d ∈ i.dests) (hd' : d + 1 ∈ i.dests) (a : Activation) (v : Word64) :
    a.Within i (a.putI64 d v) := (a.within_putSlot hd _).trans (Activation.within_putSlot hd' _ _)

/-- The result of a call, or of filled-new-array, goes to RV (R55). -/
theorem Activation.within_putResult (hi : i.writesRV = true) (a : Activation) (r : ReturnValue) :
    a.Within i (a.putResult r) where
  regs _ _ := by rw [a.putResult_regs]
  rv h := absurd (h.symm.trans hi) Bool.false_ne_true
  exc := .inl (a.putResult_exc r)
  st h := (a.putResult_st r).symm.trans h

end

/-! ### Parts -/

section
variable {α β : Type} {clear : Prop} {i : Instr} {D : Activation → Activation → Prop}

/-- What holds after a start with the host's exception-raised state clear holds for any start that turned out so. -/
theorem PreciseFrom.of_clear {a : Activation} {r : EStateM.Result Ended Ctx α} (h : PreciseFrom True i D a r) :
    PreciseFrom clear i D a r := by
  cases r with
  | ok v d => exact ⟨h.1, fun _ => h.2 trivial⟩
  | error e d =>
    cases e with
    | raised e => exact ⟨h.1, fun _ => h.2 (.inl trivial)⟩
    | faulted f => trivial
    | unanswered => trivial

theorem precise_pure (v : α) : Precise clear i Eq (pure v : Handler α) := fun _ hc => ⟨rfl, hc⟩

theorem precise_bind {x : Handler α} {f : α → Handler β} (hx : Precise clear i Eq x)
    (hf : ∀ v, Precise clear i D (f v)) : Precise clear i D (x >>= f) := fun c hc => by
  have h := hx c hc
  cases hr : x c with
  | ok v d =>
    rw [hr] at h
    obtain ⟨top, still⟩ := h
    rw [handler_bind_ok hr, top]
    exact hf v d still
  | error e d =>
    rw [hr] at h
    rw [handler_bind_error hr]
    cases e <;> exact h

theorem precise_ite {q : Prop} [Decidable q] {x y : Handler α} (hx : Precise clear i D x) (hy : Precise clear i D y) :
    Precise clear i D (if q then x else y) := by
  split
  · exact hx
  · exact hy

theorem precise_getTop : Precise clear i Eq getTop := fun _ hc => ⟨rfl, hc⟩

theorem precise_get : Precise clear i Eq (get : Handler Ctx) := fun _ hc => ⟨rfl, hc⟩

theorem precise_faultWith (f : EngineFault) : Precise clear i D (faultWith f : Handler α) := fun _ _ => trivial

theorem precise_checked (x : Checked α) : Precise clear i Eq (checked x) := fun _ hc => by
  cases x with
  | ok v => exact ⟨rfl, hc⟩
  | error f => trivial

theorem precise_ask {m : Port α} (h : Quiet m) : Precise clear i Eq (ask m) := fun c hc =>
  ⟨rfl, fun hclear => (h c.ports).1 (hc hclear)⟩

/-- After a transaction that ends with the engine's check (R604), the host's exception-raised state is clear. -/
theorem precise_asked {m : Port α} {f : α → Handler β} (h : Clears m) (hf : ∀ v, Precise True i D (f v)) :
    Precise clear i D (ask m >>= f) := fun c _ => by
  rw [handler_bind_ok (ask_run m c)]
  exact (hf _ { c with ports := (m c.ports).2 } fun _ => h c.ports).of_clear

theorem precise_queried {r : Request} {pick : Answer → Option α} {free : Nat → α} {f : α → Handler β}
    (hf : ∀ v, Precise True i D (f v)) : Precise clear i D (ask (query r pick free) >>= f) :=
  precise_asked (query_frame r pick free).2 hf

theorem precise_attempted {r : Request} {pick : Answer → Option (Reply α)} {free : Nat → Reply α}
    {f : Reply α → Handler β} (hf : ∀ v, Precise True i D (f v)) :
    Precise clear i D (ask (attempt r pick free) >>= f) :=
  precise_asked (attempt_frame r pick free).2 hf

/-- A raise where nothing is raised in the host, or of the object of a throw. -/
theorem precise_raise (x : Cause) (h : clear ∨ ∃ r, i = .throwObj r) : Precise clear i D (raise x : Handler α) :=
  fun c hc => ⟨.inl rfl, fun hclear => by
    have start : clear := hclear.elim id fun other => h.resolve_right fun ⟨r, hr⟩ => other r hr
    exact (quiet_exceptionObject x c.ports).1 (hc start)⟩

/-- A new exception is picked up from the host as it is made (R603, R604). -/
theorem precise_raiseNew (x : NewException) : Precise clear i D (raise (.new x) : Handler α) :=
  fun c _ => ⟨.inl rfl, fun _ => (throwNew_frame x).2 c.ports⟩

theorem precise_orResolution (r : Reply α) : Precise True i Eq (orResolution r) := by
  cases r with
  | ok v => exact precise_pure v
  | fails e => exact precise_raise _ (.inl trivial)

theorem precise_orHost (r : Reply α) : Precise True i Eq (orHost r) := by
  cases r with
  | ok v => exact precise_pure v
  | fails e => exact precise_raise _ (.inl trivial)

/-- A view of the top activation. -/
theorem precise_view {f : Activation → Checked α} : Precise clear i Eq (getTop >>= fun a => checked (f a)) :=
  precise_bind precise_getTop fun _ => precise_checked _

end

section
variable {clear : Prop} {i : Instr}

theorem precise_readI32 (r : Nat) : Precise clear i Eq (readI32 r) := precise_view
theorem precise_readI64 (r : Nat) : Precise clear i Eq (readI64 r) := precise_view
theorem precise_readRef (r : Nat) : Precise clear i Eq (readRef r) := precise_view
theorem precise_readUnit (k : Int) : Precise clear i Eq (readUnit k) := precise_view
theorem precise_readUnit32 (k : Int) : Precise clear i Eq (readUnit32 k) := precise_view
theorem precise_readTyped (t : TypeCode) (r : Nat) : Precise clear i Eq (readTyped t r) := precise_view

theorem precise_readRV : Precise clear i Eq readRV :=
  precise_bind precise_getTop fun _ => precise_ite (precise_pure _) (precise_faultWith _)

theorem precise_classRef (idx : Nat) : Precise clear i Eq (classRef idx) :=
  precise_attempted fun _ => precise_orResolution _

theorem precise_requireNonNull (h : Handle) (what : NullWhat) : Precise clear i Eq (requireNonNull h what) :=
  precise_ite (precise_raiseNew _) (precise_pure _)

theorem precise_instanceOrNull (h cls : Handle) (b : Bool) : Precise clear i Eq (instanceOrNull h cls b) :=
  precise_ite (precise_pure _) (precise_ask (query_frame _ _ _).1)

theorem precise_checkMagic (magic : CodeUnit) (t : Int) : Precise clear i Eq (checkMagic magic t) :=
  precise_bind (precise_readUnit t) fun _ => precise_ite (precise_pure _) (precise_faultWith _)

theorem precise_checkCount (n : BitVec 4) : Precise clear i Eq (checkCount n) :=
  precise_bind precise_getTop fun _ => precise_ite (precise_faultWith _) (precise_pure _)

theorem precise_checkElement (arr : Handle) (idx : Int) : Precise clear i Eq (checkElement arr idx) :=
  precise_bind (precise_requireNonNull _ _) fun _ => precise_queried fun _ =>
    precise_ite (precise_raiseNew _) (precise_pure _)

theorem precise_getElement (t : TypeCode) (arrReg idxReg : Nat) : Precise clear i Eq (getElement t arrReg idxReg) :=
  precise_bind (precise_readRef _) fun _ => precise_bind (precise_readI32 _) fun _ =>
    precise_bind (precise_checkElement _ _) fun _ => precise_ask (query_frame _ _ _).1

theorem precise_readFilled (k : ElemKind) (regs : List Nat) : Precise clear i Eq (readFilled k regs) :=
  precise_bind precise_getTop fun _ => by
    split
    · exact precise_checked _
    · exact precise_checked _
    · exact precise_checked _
    · exact precise_raiseNew _

theorem precise_nullMonitor {D : Activation → Activation → Prop} (pc0 : Nat) : Precise clear i D (nullMonitor pc0) :=
  precise_bind precise_get fun c => by
    cases c.params.monitorNull with
    | fault => exact precise_faultWith _
    | npe => exact precise_raiseNew _

theorem precise_readReceiver (kind : InvokeKind) (regs : List Nat) : Precise clear i Eq (readReceiver kind regs) := by
  unfold readReceiver
  split
  · exact precise_pure _
  · exact precise_bind (precise_readRef _) fun _ => precise_bind (precise_requireNonNull _ _) fun _ => precise_pure _

theorem precise_chooseTarget (kind : InvokeKind) (m : Handle) (recv : Option Handle) :
    Precise clear i Eq (chooseTarget kind m recv) := by
  unfold chooseTarget
  split
  · exact precise_pure _
  · exact precise_pure _
  · exact precise_attempted fun _ => precise_orResolution _

/-! ### Last parts -/

theorem precise_advance (n : Nat) : Precise clear i (Activation.Within i) (advance n) := fun c hc =>
  ⟨c.top.within_advance n, hc⟩

theorem precise_jump (off : Int) : Precise clear i (Activation.Within i) (jump off) := fun c hc => by
  rw [jump_run]
  split
  · exact ⟨⟨fun _ _ => rfl, fun _ => ⟨rfl, rfl⟩, .inl rfl, id⟩, hc⟩
  · trivial

/-- A write of what `i` may write, then a part that always goes on and changes only what `i` may change. -/
theorem precise_write_then {d last : Nat} {w k : Handler Unit} {put : Activation → Activation}
    (hw : Writes d last w put) (within : ∀ a : Activation, a.Within i (put a))
    (hk : ∀ c : Ctx, ∃ a, k c = .ok () { c with top := a } ∧ c.top.Within i a) :
    Precise clear i (Activation.Within i) (w >>= fun _ => k) := fun c hc => by
  have run := hw.run c
  by_cases inside : last < c.top.regs.length
  · rw [if_pos inside] at run
    obtain ⟨a, closed, closing⟩ := hk { c with top := put c.top }
    rw [handler_bind_ok run, closed]
    exact ⟨(within c.top).trans closing, hc⟩
  · rw [if_neg inside] at run
    rw [handler_bind_error run]
    trivial

theorem precise_write {d last n : Nat} {w : Handler Unit} {put : Activation → Activation} (hw : Writes d last w put)
    (within : ∀ a : Activation, a.Within i (put a)) :
    Precise clear i (Activation.Within i) (w >>= fun _ => advance n) :=
  precise_write_then hw within fun c => ⟨_, rfl, c.top.within_advance n⟩

theorem precise_writeI32 {d n : Nat} {v : Word32} (hd : i.dests = [d]) :
    Precise clear i (Activation.Within i) (writeI32 d v >>= fun _ => advance n) :=
  precise_write (writes_i32 d v) fun a => a.within_putSlot (by simp [hd]) _
theorem precise_writeF32 {d n : Nat} {v : Word32} (hd : i.dests = [d]) :
    Precise clear i (Activation.Within i) (writeF32 d v >>= fun _ => advance n) :=
  precise_write (writes_f32 d v) fun a => a.within_putSlot (by simp [hd]) _
theorem precise_writeRef {d n : Nat} {h : Handle} (hd : i.dests = [d]) :
    Precise clear i (Activation.Within i) (writeRef d h >>= fun _ => advance n) :=
  precise_write (writes_ref d h) fun a => a.within_putSlot (by simp [hd]) _
theorem precise_writeI64 {d n : Nat} {v : Word64} (hd : i.dests = [d, d + 1]) :
    Precise clear i (Activation.Within i) (writeI64 d v >>= fun _ => advance n) :=
  precise_write (writes_i64 d v) fun a => a.within_putI64 (by simp [hd]) (by simp [hd]) _

end

end Sys2Proof.Machine
end

section
/-! What each handler may change, and one table over the instructions (spec/41_move_const.md to spec/46_invoke.md). -/

namespace Sys2Proof.Machine

section
variable {clear : Prop} {i : Instr}

/-! ### Moves, integers and floating point -/

/-- move-exception empties EXC (R216). -/
theorem precise_takeCaught {dst : Nat} {aa : BitVec 8} (hi : i = .moveException aa) (hd : i.dests = [dst]) :
    Precise clear i (Activation.Within i) (takeCaught dst) :=
  precise_bind precise_getTop fun a => by
    cases a.exc with
    | none => exact precise_faultWith _
    | some h =>
      exact precise_write_then (writes_ref dst h) (fun a => a.within_putSlot (by simp [hd]) _) fun c =>
        ⟨{ c.top with exc := none, pc := c.top.pc + 1 }, rfl, fun _ _ => rfl, fun _ => ⟨rfl, rfl⟩, .inr ⟨aa, hi⟩, id⟩

theorem precise_intDivide {dst l r n : Nat} {f : Word32 → Word32 → Word32} (hd : i.dests = [dst]) :
    Precise clear i (Activation.Within i) (intDivide dst l r n f) :=
  precise_bind (precise_readI32 _) fun _ => precise_bind (precise_readI32 _) fun _ =>
    precise_ite (precise_raiseNew _) (precise_writeI32 hd)
theorem precise_intLiteralDivide {dst src : Nat} {lit : Word32} {f : Word32 → Word32 → Word32} (hd : i.dests = [dst]) :
    Precise clear i (Activation.Within i) (intLiteralDivide dst src lit f) :=
  precise_bind (precise_readI32 _) fun _ => precise_ite (precise_raiseNew _) (precise_writeI32 hd)
theorem precise_longDivide {dst l r n : Nat} {f : Word64 → Word64 → Word64} (hd : i.dests = [dst, dst + 1]) :
    Precise clear i (Activation.Within i) (longDivide dst l r n f) :=
  precise_bind (precise_readI64 _) fun _ => precise_bind (precise_readI64 _) fun _ =>
    precise_ite (precise_raiseNew _) (precise_writeI64 hd)

theorem precise_floatBinary {dst l r n : Nat} {f : FloatFormat → FloatValue → FloatValue → Option Nat}
    (hd : i.dests = [dst]) : Precise clear i (Activation.Within i) (floatBinary dst l r n f) :=
  precise_bind (precise_readI32 _) fun _ => precise_bind (precise_readI32 _) fun _ =>
    precise_bind (precise_ask (quiet_produce32 _)) fun _ => precise_writeF32 hd
theorem precise_doubleBinary {dst l r n : Nat} {f : FloatFormat → FloatValue → FloatValue → Option Nat}
    (hd : i.dests = [dst, dst + 1]) : Precise clear i (Activation.Within i) (doubleBinary dst l r n f) :=
  precise_bind (precise_readI64 _) fun _ => precise_bind (precise_readI64 _) fun _ =>
    precise_bind (precise_ask (quiet_produce64 _)) fun _ => precise_writeI64 hd

/-! ### Control flow -/

theorem precise_packedSwitchOn (src : Nat) (off : Word32) :
    Precise clear i (Activation.Within i) (packedSwitchOn src off) :=
  precise_bind (precise_readI32 _) fun _ => precise_bind precise_getTop fun _ =>
    precise_bind (precise_checkMagic _ _) fun _ => precise_bind (precise_readUnit _) fun _ =>
      precise_bind (precise_readUnit32 _) fun _ =>
        precise_ite (precise_bind (precise_readUnit32 _) fun _ => precise_jump _) (precise_advance 3)

theorem precise_sparseSwitchOn (src : Nat) (off : Word32) :
    Precise clear i (Activation.Within i) (sparseSwitchOn src off) :=
  precise_bind (precise_readI32 _) fun v => precise_bind precise_getTop fun _ =>
    precise_bind (precise_checkMagic _ _) fun _ => precise_bind (precise_readUnit _) fun _ =>
      precise_bind (precise_checked _) fun keys => precise_ite
        (by
          cases keys.idxOf? v with
          | some j => exact precise_bind (precise_readUnit32 _) fun _ => precise_jump _
          | none => exact precise_advance 3)
        (precise_faultWith _)

/-- The object of a throw is not the host's, so nothing is picked up (R441, R604). -/
theorem precise_throwRef {aa : BitVec 8} (hi : i = .throwObj aa) (src : Nat) :
    Precise clear i (Activation.Within i) (throwRef src) :=
  precise_bind (precise_readRef _) fun _ => precise_ite (precise_raiseNew _) (precise_raise _ (.inr ⟨aa, hi⟩))

theorem precise_finish (v : ReturnValue) : Precise clear i (Activation.Within i) (finish v) := fun _ hc =>
  ⟨⟨fun _ _ => rfl, fun _ => ⟨rfl, rfl⟩, .inl rfl, nofun⟩, hc⟩

theorem precise_returnMismatch : Precise clear i (Activation.Within i) returnMismatch :=
  precise_bind precise_getTop fun _ => precise_faultWith _

theorem precise_finishVoid : Precise clear i (Activation.Within i) finishVoid :=
  precise_bind precise_getTop fun _ => by
    split
    · exact precise_finish _
    · exact precise_returnMismatch
theorem precise_finishI32 (src : Nat) : Precise clear i (Activation.Within i) (finishI32 src) :=
  precise_bind (precise_readI32 _) fun _ => precise_bind precise_getTop fun _ => by
    split
    · exact precise_finish _
    · exact precise_returnMismatch
theorem precise_finishI64 (src : Nat) : Precise clear i (Activation.Within i) (finishI64 src) :=
  precise_bind (precise_readI64 _) fun _ => precise_bind precise_getTop fun _ => by
    split
    · exact precise_finish _
    · exact precise_returnMismatch
theorem precise_finishRef (src : Nat) : Precise clear i (Activation.Within i) (finishRef src) :=
  precise_bind (precise_readRef _) fun _ => precise_bind precise_getTop fun _ => by
    split
    · exact precise_finish _
    · exact precise_returnMismatch

theorem precise_acquireMonitor (src : Nat) : Precise clear i (Activation.Within i) (acquireMonitor src) :=
  precise_bind (precise_readRef _) fun _ => precise_bind precise_getTop fun _ => precise_ite
    (precise_nullMonitor _)
    (precise_asked (monitorEnterOn_frame _).2 fun r => by
      cases r with
      | acquired => exact precise_advance 1
      | fails e => exact precise_raise _ (.inl trivial)
      | unanswered => exact fun _ _ => trivial)

/-- monitor-exit advances first, so what it raises it raises past its unit (R457). -/
theorem precise_advance_then {aa : BitVec 8} {x : Handler Unit} (hi : i = .monitorExit aa) (steady : Steady x)
    (hx : Precise clear i Eq x) : Precise clear i (Activation.Within i) (advance 1 >>= fun _ => x) := fun c hc => by
  have same := steady { c with top := c.top.advance 1 }
  have h := hx { c with top := c.top.advance 1 } hc
  rw [handler_bind_ok (advance_run 1 c)]
  cases hr : x { c with top := c.top.advance 1 } with
  | ok v d =>
    rw [hr] at h
    obtain ⟨top, still⟩ := h
    exact ⟨top ▸ c.top.within_advance 1, still⟩
  | error e d =>
    rw [hr] at h same
    cases e with
    | raised e => exact ⟨.inr ⟨same.top.pc, aa, hi⟩, h.2⟩
    | faulted f => trivial
    | unanswered => trivial

theorem precise_releaseMonitor {aa : BitVec 8} (hi : i = .monitorExit aa) (src : Nat) :
    Precise clear i (Activation.Within i) (releaseMonitor src) :=
  precise_bind (precise_readRef _) fun _ => precise_bind precise_getTop fun _ => precise_advance_then hi
    (steady_ite (steady_nullMonitor _) (steady_bind (steady_attempt _ _ _) fun _ => steady_orHost _))
    (precise_ite (precise_nullMonitor _) (precise_attempted fun _ => precise_orHost _))

/-! ### Objects, arrays and fields -/

theorem precise_lengthOf {dst src : Nat} (hd : i.dests = [dst]) :
    Precise clear i (Activation.Within i) (lengthOf dst src) :=
  precise_bind (precise_readRef _) fun _ => precise_bind (precise_requireNonNull _ _) fun _ =>
    precise_queried fun _ => precise_writeI32 hd
theorem precise_allocObject {dst idx : Nat} (hd : i.dests = [dst]) :
    Precise clear i (Activation.Within i) (allocObject dst idx) :=
  precise_bind (precise_classRef _) fun _ => precise_attempted fun _ =>
    precise_bind (precise_orHost _) fun _ => precise_writeRef hd
theorem precise_allocArrayOf {dst src idx : Nat} (hd : i.dests = [dst]) :
    Precise clear i (Activation.Within i) (allocArrayOf dst src idx) :=
  precise_bind (precise_readI32 _) fun _ => precise_bind (precise_classRef _) fun _ =>
    precise_ite (precise_raiseNew _)
      (precise_attempted fun _ => precise_bind (precise_orResolution _) fun _ => precise_writeRef hd)
theorem precise_castCheck (src idx : Nat) : Precise clear i (Activation.Within i) (castCheck src idx) :=
  precise_bind (precise_readRef _) fun _ => precise_bind (precise_classRef _) fun _ =>
    precise_bind (precise_instanceOrNull _ _ _) fun _ => precise_ite (precise_advance 2)
      (precise_queried fun _ => precise_raiseNew _)
theorem precise_instanceTest {dst src idx : Nat} (hd : i.dests = [dst]) :
    Precise clear i (Activation.Within i) (instanceTest dst src idx) :=
  precise_bind (precise_readRef _) fun _ => precise_bind (precise_classRef _) fun _ =>
    precise_bind (precise_instanceOrNull _ _ _) fun _ => precise_writeI32 hd

theorem precise_fillFromTable (src : Nat) (off : Word32) :
    Precise clear i (Activation.Within i) (fillFromTable src off) :=
  precise_bind (precise_readRef _) fun _ => precise_bind (precise_requireNonNull _ _) fun _ =>
    precise_bind precise_getTop fun _ => precise_bind (precise_checkMagic _ _) fun _ =>
      precise_bind (precise_readUnit _) fun _ => precise_ite
        (precise_bind (precise_readUnit32 _) fun _ => precise_queried fun _ =>
          precise_ite (precise_raiseNew _)
            (precise_bind (precise_checked _) fun _ => precise_attempted fun _ =>
              precise_bind (precise_orHost _) fun _ => precise_advance 3))
        (precise_faultWith _)

theorem precise_filledArray (hi : i.writesRV = true) (idx : Nat) (regs : List Nat) :
    Precise clear i (Activation.Within i) (filledArray idx regs) :=
  precise_queried fun _ => precise_bind (precise_readFilled _ _) fun _ => precise_attempted fun _ =>
    precise_bind (precise_orResolution _) fun arr => precise_attempted fun _ =>
      precise_bind (precise_orHost _) fun _ => fun c hc =>
        ⟨(c.top.within_putResult hi (.value (.ref arr))).trans (Activation.within_advance _ 3), hc⟩

theorem precise_filledPacked (hi : i.writesRV = true) (count : BitVec 4) (idx : Nat) (c d e f g : BitVec 4) :
    Precise clear i (Activation.Within i) (filledPacked count idx c d e f g) :=
  precise_bind (precise_checkCount _) fun _ => precise_filledArray hi _ _

theorem precise_putElement32 (k : Code32) (src arrReg idxReg : Nat) :
    Precise clear i (Activation.Within i) (putElement32 k src arrReg idxReg) :=
  precise_bind (precise_readI32 _) fun _ => precise_bind (precise_readRef _) fun _ =>
    precise_bind (precise_readI32 _) fun _ => precise_bind (precise_checkElement _ _) fun _ =>
      precise_asked (send_frame _).2 fun _ => precise_advance 2
theorem precise_putElement64 (src arrReg idxReg : Nat) :
    Precise clear i (Activation.Within i) (putElement64 src arrReg idxReg) :=
  precise_bind (precise_readI64 _) fun _ => precise_bind (precise_readRef _) fun _ =>
    precise_bind (precise_readI32 _) fun _ => precise_bind (precise_checkElement _ _) fun _ =>
      precise_asked (send_frame _).2 fun _ => precise_advance 2
theorem precise_putElementRef (src arrReg idxReg : Nat) :
    Precise clear i (Activation.Within i) (putElementRef src arrReg idxReg) :=
  precise_bind (precise_readRef _) fun _ => precise_bind (precise_readRef _) fun _ =>
    precise_bind (precise_readI32 _) fun _ => precise_bind (precise_checkElement _ _) fun _ =>
      precise_attempted fun _ => precise_bind (precise_orHost _) fun _ => precise_advance 2

theorem precise_writeField {dst : Nat} (hd : i.dests = [dst, dst + 1]) (v : TypedValue) :
    Precise clear i (Activation.Within i) (writeField dst v >>= fun _ => advance 2) := by
  have low : dst ∈ i.dests := by simp [hd]
  unfold writeField
  split
  · exact precise_write (writes_f32 _ _) fun a => a.within_putSlot low _
  · exact precise_write (writes_i32 _ _) fun a => a.within_putSlot low _
  · exact precise_writeI64 hd
  · exact precise_write (writes_ref _ _) fun a => a.within_putSlot low _

theorem precise_getField {dst idx : Nat} {inst : Handle} (hd : i.dests = [dst, dst + 1]) :
    Precise clear i (Activation.Within i) (getField dst idx inst) :=
  precise_attempted fun _ => precise_bind (precise_orResolution _) fun _ => precise_writeField hd _
theorem precise_putField (idx : Nat) (inst : Handle) (v : TypedValue) :
    Precise clear i (Activation.Within i) (putField idx inst v) :=
  precise_attempted fun _ => precise_bind (precise_orResolution _) fun _ => precise_advance 2
theorem precise_getInstanceField {dst objReg idx : Nat} (hd : i.dests = [dst, dst + 1]) :
    Precise clear i (Activation.Within i) (getInstanceField dst objReg idx) :=
  precise_bind (precise_readRef _) fun _ => precise_bind (precise_requireNonNull _ _) fun _ => precise_getField hd
theorem precise_putInstanceField (t : TypeCode) (src objReg idx : Nat) :
    Precise clear i (Activation.Within i) (putInstanceField t src objReg idx) :=
  precise_bind (precise_readTyped _ _) fun _ => precise_bind (precise_readRef _) fun _ =>
    precise_bind (precise_requireNonNull _ _) fun _ => precise_putField _ _ _
theorem precise_putStaticField (t : TypeCode) (src idx : Nat) :
    Precise clear i (Activation.Within i) (putStaticField t src idx) :=
  precise_bind (precise_readTyped _ _) fun _ => precise_putField _ _ _

/-! ### Invokes -/

/-- ST and INV as an invoke sets them on its way are no part of what it may change. -/
theorem precise_restage_then {st : Activation → Status} {inv : Inv} {k : Activation → Handler Unit}
    (running : ∀ a, st a = .throwing → a.st = .throwing) (hk : ∀ a, Precise clear i (Activation.Within i) (k a)) :
    Precise clear i (Activation.Within i)
      (getTop >>= fun a => setTop { a with st := st a, inv := inv } >>= fun _ => k a) := fun c hc => by
  have staged : c.top.Within i { c.top with st := st c.top, inv := inv } :=
    ⟨fun _ _ => rfl, fun _ => ⟨rfl, rfl⟩, .inl rfl, running c.top⟩
  have h := hk c.top { c with top := { c.top with st := st c.top, inv := inv } } hc
  rw [handler_bind_ok (getTop_run c), handler_bind_ok (setTop_run _ c)]
  cases hr : k c.top { c with top := { c.top with st := st c.top, inv := inv } } with
  | ok v d =>
    rw [hr] at h
    exact ⟨staged.trans h.1, h.2⟩
  | error e d =>
    rw [hr] at h
    cases e <;> exact h

theorem precise_awaitCall (hi : i.writesRV = true) (call : StagedCall) :
    Precise True i (Activation.Within i) (awaitCall call) :=
  precise_bind (precise_ask callAnswer_quiet) fun r => by
    cases r with
    | returns bits =>
      intro c hc
      obtain ⟨regs, rv, exc, -⟩ := c.top.within_putResult hi (hostResult call.ret bits)
      exact ⟨⟨regs, rv, exc, nofun⟩, hc⟩
    | fails e => exact precise_raise _ (.inl trivial)
    | reenters entry =>
      exact precise_bind precise_get fun _ => precise_bind (precise_ask (quiet_startChain _ _ _)) fun _ =>
        precise_bind (precise_checked _) fun _ =>
          precise_restage_then (st := fun _ => .run) (fun _ => nofun) fun _ _ hc => ⟨.refl _, hc⟩

theorem precise_callHost (hi : i.writesRV = true) (call : StagedCall) (recv : Option Handle) (sh : Shorty) :
    Precise True i (Activation.Within i) (callHost call recv sh) :=
  precise_bind (precise_ask (quiet_issue _)) fun _ =>
    precise_restage_then (st := fun _ => .calling) (fun _ => nofun) fun _ =>
      precise_awaitCall hi call

theorem precise_callNested (pc0 need : Nat) (call : StagedCall) (sh : Shorty) :
    Precise True i (Activation.Within i) (callNested pc0 need call sh) :=
  precise_bind (precise_ask (methodInfo_frame _).1) fun info => fun c hc => by
    rw [handler_bind_ok (handler_get c)]
    split
    · trivial
    · split
      · trivial
      · cases Activation.start (info.toMethod sh) call.args with
        | error f => trivial
        | ok b => exact ⟨⟨fun _ _ => rfl, fun _ => ⟨rfl, rfl⟩, .inl rfl, nofun⟩, hc⟩

theorem precise_invoke (hi : i.writesRV = true) (kind : InvokeKind) (form : ArgForm) (idx : Nat) (regs : List Nat) :
    Precise clear i (Activation.Within i) (invoke kind form idx regs) :=
  precise_restage_then (st := Activation.st) (fun _ => id) fun _ => precise_attempted fun _ =>
    precise_bind (precise_orResolution _) fun _ => precise_bind (precise_ask (query_frame _ _ _).1) fun _ =>
      precise_ite (precise_faultWith _) <| precise_bind (precise_readReceiver _ _) fun _ =>
        precise_bind (precise_chooseTarget _ _ _) fun _ => precise_bind (precise_checked _) fun _ =>
          precise_bind (precise_ask (query_frame _ _ _).1) fun _ =>
            precise_ite (precise_callNested _ _ _ _) (precise_callHost hi _ _ _)

theorem precise_invokePacked (hi : i.writesRV = true) (kind : InvokeKind) (count : BitVec 4) (idx : Nat)
    (c d e f g : BitVec 4) : Precise clear i (Activation.Within i) (invokePacked kind count idx c d e f g) :=
  precise_bind (precise_checkCount _) fun _ => precise_invoke hi _ _ _ _

end

end Sys2Proof.Machine
end

section
/-! The frame of destinations and the precision of exceptions (spec/40_dispatch.md R180, R181). -/

namespace Sys2Proof.Machine

/-- Every instruction runs a handler that changes only what the instruction may change, and raises precisely. -/
theorem exec_runs_precise (clear : Prop) (i : Instr) :
    ∃ h, (∀ s, exec i s = runTop h s) ∧ Precise clear i (Activation.Within i) h := by
  cases i with
  | nop => exact ⟨_, fun _ => rfl, precise_advance _⟩
  | move | moveFrom16 | move16 =>
    exact ⟨_, fun _ => rfl, precise_bind (precise_readI32 _) fun _ => precise_writeI32 rfl⟩
  | moveWide | moveWideFrom16 | moveWide16 =>
    exact ⟨_, fun _ => rfl, precise_bind (precise_readI64 _) fun _ => precise_writeI64 rfl⟩
  | moveObject | moveObjectFrom16 | moveObject16 =>
    exact ⟨_, fun _ => rfl, precise_bind (precise_readRef _) fun _ => precise_writeRef rfl⟩
  | moveResult => exact ⟨_, fun _ => rfl, precise_bind precise_readRV fun _ => precise_writeI32 rfl⟩
  | moveResultWide => exact ⟨_, fun _ => rfl, precise_bind precise_readRV fun _ => precise_writeI64 rfl⟩
  | moveResultObject => exact ⟨_, fun _ => rfl, precise_bind precise_readRV fun _ => precise_writeRef rfl⟩
  | moveException => exact ⟨_, fun _ => rfl, precise_takeCaught rfl rfl⟩
  | returnVoid => exact ⟨_, fun _ => rfl, precise_finishVoid⟩
  | returnVal => exact ⟨_, fun _ => rfl, precise_finishI32 _⟩
  | returnWide => exact ⟨_, fun _ => rfl, precise_finishI64 _⟩
  | returnObject => exact ⟨_, fun _ => rfl, precise_finishRef _⟩
  | const4 | const16 | const32 | constHigh16 => exact ⟨_, fun _ => rfl, precise_writeI32 rfl⟩
  | constWide16 | constWide32 | constWide | constWideHigh16 => exact ⟨_, fun _ => rfl, precise_writeI64 rfl⟩
  | constString | constStringJumbo => exact ⟨_, fun _ => rfl, precise_queried fun _ => precise_writeRef rfl⟩
  | constClass => exact ⟨_, fun _ => rfl, precise_bind (precise_classRef _) fun _ => precise_writeRef rfl⟩
  | monitorEnter => exact ⟨_, fun _ => rfl, precise_acquireMonitor _⟩
  | monitorExit => exact ⟨_, fun _ => rfl, precise_releaseMonitor rfl _⟩
  | checkCast => exact ⟨_, fun _ => rfl, precise_castCheck _ _⟩
  | instanceOf => exact ⟨_, fun _ => rfl, precise_instanceTest rfl⟩
  | arrayLength => exact ⟨_, fun _ => rfl, precise_lengthOf rfl⟩
  | newInstance => exact ⟨_, fun _ => rfl, precise_allocObject rfl⟩
  | newArray => exact ⟨_, fun _ => rfl, precise_allocArrayOf rfl⟩
  | filledNewArray => exact ⟨_, fun _ => rfl, precise_filledPacked rfl _ _ _ _ _ _ _⟩
  | filledNewArrayRange => exact ⟨_, fun _ => rfl, precise_filledArray rfl _ _⟩
  | fillArrayData => exact ⟨_, fun _ => rfl, precise_fillFromTable _ _⟩
  | throwObj => exact ⟨_, fun _ => rfl, precise_throwRef rfl _⟩
  | goto | goto16 | goto32 => exact ⟨_, fun _ => rfl, precise_jump _⟩
  | packedSwitch => exact ⟨_, fun _ => rfl, precise_packedSwitchOn _ _⟩
  | sparseSwitch => exact ⟨_, fun _ => rfl, precise_sparseSwitchOn _ _⟩
  | cmplFloat | cmpgFloat =>
    exact ⟨_, fun _ => rfl, precise_bind (precise_readI32 _) fun _ => precise_bind (precise_readI32 _) fun _ =>
      precise_writeI32 rfl⟩
  | cmplDouble | cmpgDouble | cmpLong =>
    exact ⟨_, fun _ => rfl, precise_bind (precise_readI64 _) fun _ => precise_bind (precise_readI64 _) fun _ =>
      precise_writeI32 rfl⟩
  | ifEq | ifNe | ifLt | ifGe | ifGt | ifLe =>
    exact ⟨_, fun _ => rfl, precise_bind (precise_readI32 _) fun _ => precise_bind (precise_readI32 _) fun _ =>
      precise_ite (precise_jump _) (precise_advance 2)⟩
  | ifEqz | ifNez | ifLtz | ifGez | ifGtz | ifLez =>
    exact ⟨_, fun _ => rfl, precise_bind (precise_readI32 _) fun _ =>
      precise_ite (precise_jump _) (precise_advance 2)⟩
  | unused3e | unused3f | unused40 | unused41 | unused42 | unused43 | unused73 | unused79 | unused7a
    | unusedE3 | unusedE4 | unusedE5 | unusedE6 | unusedE7 | unusedE8 | unusedE9 | unusedEa | unusedEb
    | unusedEc | unusedEd | unusedEe | unusedEf | unusedF0 | unusedF1 | unusedF2 | unusedF3 | unusedF4
    | unusedF5 | unusedF6 | unusedF7 | unusedF8 | unusedF9 | unusedFa | unusedFb | unusedFc | unusedFd
    | unusedFe | unusedFf => exact ⟨_, fun _ => rfl, precise_bind precise_getTop fun _ => precise_faultWith _⟩
  | aget | agetBoolean | agetByte | agetChar | agetShort =>
    exact ⟨_, fun _ => rfl, precise_bind (precise_getElement _ _ _) fun _ => precise_writeI32 rfl⟩
  | agetWide => exact ⟨_, fun _ => rfl, precise_bind (precise_getElement _ _ _) fun _ => precise_writeI64 rfl⟩
  | agetObject => exact ⟨_, fun _ => rfl, precise_bind (precise_getElement _ _ _) fun _ => precise_writeRef rfl⟩
  | aput | aputBoolean | aputByte | aputChar | aputShort => exact ⟨_, fun _ => rfl, precise_putElement32 _ _ _ _⟩
  | aputWide => exact ⟨_, fun _ => rfl, precise_putElement64 _ _ _⟩
  | aputObject => exact ⟨_, fun _ => rfl, precise_putElementRef _ _ _⟩
  | iget | igetWide | igetObject | igetBoolean | igetByte | igetChar | igetShort =>
    exact ⟨_, fun _ => rfl, precise_getInstanceField rfl⟩
  | iput | iputBoolean | iputByte | iputChar | iputShort | iputWide | iputObject =>
    exact ⟨_, fun _ => rfl, precise_putInstanceField _ _ _ _⟩
  | sget | sgetWide | sgetObject | sgetBoolean | sgetByte | sgetChar | sgetShort =>
    exact ⟨_, fun _ => rfl, precise_getField rfl⟩
  | sput | sputBoolean | sputByte | sputChar | sputShort | sputWide | sputObject =>
    exact ⟨_, fun _ => rfl, precise_putStaticField _ _ _⟩
  | invokeVirtual | invokeSuper | invokeDirect | invokeStatic | invokeInterface =>
    exact ⟨_, fun _ => rfl, precise_invokePacked rfl _ _ _ _ _ _ _ _⟩
  | invokeVirtualRange | invokeSuperRange | invokeDirectRange | invokeStaticRange | invokeInterfaceRange =>
    exact ⟨_, fun _ => rfl, precise_invoke rfl _ _ _ _⟩
  | negInt | notInt | intToByte | intToChar | intToShort | floatToInt =>
    exact ⟨_, fun _ => rfl, precise_bind (precise_readI32 _) fun _ => precise_writeI32 rfl⟩
  | negFloat | intToFloat => exact ⟨_, fun _ => rfl, precise_bind (precise_readI32 _) fun _ => precise_writeF32 rfl⟩
  | intToLong | intToDouble | floatToLong =>
    exact ⟨_, fun _ => rfl, precise_bind (precise_readI32 _) fun _ => precise_writeI64 rfl⟩
  | longToInt | doubleToInt => exact ⟨_, fun _ => rfl, precise_bind (precise_readI64 _) fun _ => precise_writeI32 rfl⟩
  | longToFloat => exact ⟨_, fun _ => rfl, precise_bind (precise_readI64 _) fun _ => precise_writeF32 rfl⟩
  | negLong | notLong | negDouble | longToDouble | doubleToLong =>
    exact ⟨_, fun _ => rfl, precise_bind (precise_readI64 _) fun _ => precise_writeI64 rfl⟩
  | floatToDouble =>
    exact ⟨_, fun _ => rfl, precise_bind (precise_readI32 _) fun _ =>
      precise_bind (precise_ask (quiet_produce64 _)) fun _ => precise_writeI64 rfl⟩
  | doubleToFloat =>
    exact ⟨_, fun _ => rfl, precise_bind (precise_readI64 _) fun _ =>
      precise_bind (precise_ask (quiet_produce32 _)) fun _ => precise_writeF32 rfl⟩
  | addInt | subInt | mulInt | andInt | orInt | xorInt | shlInt | shrInt | ushrInt | addInt2addr | subInt2addr
    | mulInt2addr | andInt2addr | orInt2addr | xorInt2addr | shlInt2addr | shrInt2addr | ushrInt2addr =>
    exact ⟨_, fun _ => rfl, precise_bind (precise_readI32 _) fun _ => precise_bind (precise_readI32 _) fun _ =>
      precise_writeI32 rfl⟩
  | divInt | remInt | divInt2addr | remInt2addr => exact ⟨_, fun _ => rfl, precise_intDivide rfl⟩
  | addLong | subLong | mulLong | andLong | orLong | xorLong | addLong2addr | subLong2addr | mulLong2addr
    | andLong2addr | orLong2addr | xorLong2addr =>
    exact ⟨_, fun _ => rfl, precise_bind (precise_readI64 _) fun _ => precise_bind (precise_readI64 _) fun _ =>
      precise_writeI64 rfl⟩
  | divLong | remLong | divLong2addr | remLong2addr => exact ⟨_, fun _ => rfl, precise_longDivide rfl⟩
  | shlLong | shrLong | ushrLong | shlLong2addr | shrLong2addr | ushrLong2addr =>
    exact ⟨_, fun _ => rfl, precise_bind (precise_readI64 _) fun _ => precise_bind (precise_readI32 _) fun _ =>
      precise_writeI64 rfl⟩
  | addFloat | subFloat | mulFloat | divFloat | remFloat | addFloat2addr | subFloat2addr | mulFloat2addr
    | divFloat2addr | remFloat2addr => exact ⟨_, fun _ => rfl, precise_floatBinary rfl⟩
  | addDouble | subDouble | mulDouble | divDouble | remDouble | addDouble2addr | subDouble2addr
    | mulDouble2addr | divDouble2addr | remDouble2addr => exact ⟨_, fun _ => rfl, precise_doubleBinary rfl⟩
  | addIntLit16 | rsubInt | mulIntLit16 | andIntLit16 | orIntLit16 | xorIntLit16 | addIntLit8 | rsubIntLit8
    | mulIntLit8 | andIntLit8 | orIntLit8 | xorIntLit8 | shlIntLit8 | shrIntLit8 | ushrIntLit8 =>
    exact ⟨_, fun _ => rfl, precise_bind (precise_readI32 _) fun _ => precise_writeI32 rfl⟩
  | divIntLit16 | remIntLit16 | divIntLit8 | remIntLit8 => exact ⟨_, fun _ => rfl, precise_intLiteralDivide rfl⟩

/-- How an instruction leaves its activation `a`, now `b` under the activations `above`. -/
inductive ExecLeaves (i : Instr) (s t : State) (a b : Activation) (above : List Activation) : Prop where
  | completed (within : a.Within i b)
  | raised (e : Handle) (pc : Nat) (taken : b = { a with pc := pc, exc := some e, st := .throwing, inv := .idle })
      (alone : above = []) (fault : t.fault = s.fault) (cursor : pc = a.pc ∨ pc = a.pc + 1 ∧ ∃ r, i = .monitorExit r)
      (clear : (s.ports.hostExc = none ∨ ∀ r, i ≠ .throwObj r) → t.ports.hostExc = none)
  | faulted (pc : Nat) (kept : b = { a with pc := pc })

/-- What stands above the activations below is the activation that ran. -/
theorem top_of_stackOver_append {c : Ctx} {b : Activation} {above rest : List Activation}
    (h : c.stackOver rest = above ++ b :: rest) : b = c.top := by
  have split : c.stackOver rest = c.callee.toList ++ c.top :: rest := by
    unfold Ctx.stackOver
    cases c.callee <;> rfl
  exact (List.cons.inj (List.append_inj_right' (h.symm.trans split) rfl)).1

theorem singleton_of_append {x b : Activation} {above rest : List Activation} (h : x :: rest = above ++ b :: rest) :
    above = [] ∧ b = x := by
  obtain ⟨nil, cons⟩ := List.append_inj' (s₁ := []) h rfl
  exact ⟨nil.symm, (List.cons.inj cons).1.symm⟩

theorem exec_leaves {i : Instr} {s t : State} {a b : Activation} {rest above : List Activation}
    (hs : s.stack = a :: rest) (h : exec i s = .next t) (ht : t.stack = above ++ b :: rest) :
    ExecLeaves i s t a b above := by
  obtain ⟨handler, runs, precise⟩ := exec_runs_precise (s.ports.hostExc = none) i
  have ending := precise (Ctx.enter s a rest) id
  rw [runs] at h
  rcases runTop_cases (h := handler) hs with ⟨c, hc, hr⟩ | ⟨e, c, hc, hr⟩ | ⟨f, c, hc, hr⟩ | ⟨c, hc, hr⟩ <;>
    rw [hr] at h <;> cases h <;> rw [hc] at ending
  case inl => exact .completed (top_of_stackOver_append ht ▸ ending.1)
  case inr.inl =>
    obtain ⟨rfl, rfl⟩ := singleton_of_append ht
    exact .raised e c.top.pc rfl rfl rfl ending.1 ending.2
  case inr.inr.inl => exact .faulted c.top.pc (singleton_of_append ht).2

/-- Settles O57: an instruction that raises or faults writes none of the three. -/
theorem destinationFrame : Obligations.DestinationFrame := by
  intro i s t a b rest above hs h ht
  cases exec_leaves hs h ht with
  | completed within =>
    exact ⟨within.regs, within.rv, within.exc.imp_right .inr, fun empty => within.exc.imp_left (·.symm.trans empty)⟩
  | raised e pc taken =>
    subst taken
    exact ⟨fun _ _ => rfl, fun _ => ⟨rfl, rfl⟩, .inr (.inl rfl), nofun⟩
  | faulted pc kept =>
    subst kept
    exact ⟨fun _ _ => rfl, fun _ => ⟨rfl, rfl⟩, .inl rfl, .inl⟩

/-- Settles O58: only the raise leaves the activation THROWING. -/
theorem raisesArePrecise : Obligations.RaisesArePrecise := by
  intro i s t a b rest above hs start h ht st
  cases exec_leaves hs h ht with
  | completed within => exact absurd (within.st st) start
  | raised e pc taken alone fault cursor clear =>
    subst taken
    exact ⟨alone, fault, clear, ⟨e, rfl⟩, cursor⟩
  | faulted pc kept =>
    subst kept
    exact absurd st start

end Sys2Proof.Machine
end

section
/-! The result moves, the caught exception and the constant loads (spec/41_move_const.md R212 to R227). -/

namespace Sys2Proof.Machine

/-! ### Transactions before the end of a handler (R66, R602) -/

section
variable {s : State} {a : Activation} {rest : List Activation} {h : Handler Unit} {p : Ports}

/-- A handler that changes the top activation and the ports. -/
theorem runTop_becomesAt {b : Activation} (hs : s.stack = a :: rest)
    (hc : h (Ctx.enter s a rest) = .ok () { Ctx.enter s a rest with top := b, ports := p }) :
    runTop h s = becomesAt s rest b p := runTop_ok hs hc

/-- A handler that raises with its cursor where it was. -/
theorem runTop_raises {e : Handle} (hs : s.stack = a :: rest)
    (hc : h (Ctx.enter s a rest) = .error (.raised e) { Ctx.enter s a rest with ports := p }) :
    runTop h s = raises s a rest a.pc e p := runTop_raised hs hc

end

section
variable {α : Type} {c : Ctx} {p : Ports}

/-- A transaction whose answer and ports after it are known. -/
theorem ask_of_eq {m : Port α} {v : α} (h : m c.ports = (v, p)) : ask m c = .ok v { c with ports := p } := by
  rw [ask_run, h]

/-- A class that resolves (R227). -/
theorem classRef_ok {i : Nat} {h : Handle} (resolved : resolveClass i c.ports = (.ok h, p)) :
    classRef i c = .ok h { c with ports := p } := by
  rw [classRef, handler_bind_ok (ask_of_eq resolved), orResolution_run]

/-- A class that does not resolve raises X7 (R227). -/
theorem classRef_raised {i : Nat} {e : Handle} (failed : resolveClass i c.ports = (.fails e, p)) :
    classRef i c = .error (.raised e) { c with ports := p } := by
  rw [classRef, handler_bind_ok (ask_of_eq failed), orResolution_run]

end

/-! ### RV and EXC as sources (R212 to R216) -/

section
variable {c : Ctx} {d : Nat}

theorem readRV_written (h : c.top.rvw = true) : readRV c = .ok c.top.rv c := by rw [readRV_run, if_pos h]

theorem readRV_unwritten (h : c.top.rvw = false) : readRV c = .error (.faulted (.uninitRead .rv)) c := by
  rw [readRV_run, h, if_neg Bool.false_ne_true]

theorem takeCaught_held {h : Handle} (held : c.top.exc = some h) (hd : d < c.top.regs.length) :
    takeCaught d c = .ok () { c with top := { c.top.withRef d h 1 with exc := none } } := by
  rw [takeCaught, handler_bind_ok (getTop_run c), held]
  exact handler_bind_ok (writeRef_ok h hd)

theorem takeCaught_empty (empty : c.top.exc = none) :
    takeCaught d c = .error (.faulted (.noPendingException c.top.pc)) c := by
  rw [takeCaught, handler_bind_ok (getTop_run c), empty]
  exact faultWith_run _ c

end

section
variable {s : State} {a : Activation} {rest : List Activation} {d : Nat}

theorem moveResultI32_becomes (hs : s.stack = a :: rest) (written : a.rvw = true) (hd : d < a.regs.length) :
    runTop (moveResultI32 d) s = becomes s rest (a.with32 d (a.rv.extractLsb' 0 32) 1) := by
  rw [← BitVec.setWidth_eq_extractLsb' (by decide)]
  exact runTop_becomes hs ((handler_bind_ok (readRV_written written)).trans (handler_bind_ok (writeI32_ok _ hd)))

theorem moveResultI64_becomes (hs : s.stack = a :: rest) (written : a.rvw = true) (hd : d + 1 < a.regs.length) :
    runTop (moveResultI64 d) s = becomes s rest (a.with64 d a.rv 1) :=
  runTop_becomes hs ((handler_bind_ok (readRV_written written)).trans (handler_bind_ok (writeI64_ok _ hd)))

theorem moveResultRef_becomes (hs : s.stack = a :: rest) (written : a.rvw = true) (hd : d < a.regs.length) :
    runTop (moveResultRef d) s = becomes s rest (a.withRef d a.rv 1) :=
  runTop_becomes hs ((handler_bind_ok (readRV_written written)).trans (handler_bind_ok (writeRef_ok _ hd)))

/-- Whatever a handler would do with RV, it faults when RV is not written (R212). -/
theorem readRV_bind_faults {f : Word64 → Handler Unit} (hs : s.stack = a :: rest) (unwritten : a.rvw = false) :
    runTop (readRV >>= f) s = faults s (.uninitRead .rv) :=
  runTop_faultsAt (p := s.ports) hs (handler_bind_error (readRV_unwritten unwritten))

end

/-- Settles O18: three handlers that read RV first, and one that looks at EXC first. -/
theorem resultMoves : Obligations.ResultMoves := fun s _ _ _ hs =>
  ⟨fun written hd => ⟨moveResultI32_becomes hs written hd, moveResultRef_becomes hs written hd⟩,
    moveResultI64_becomes hs,
    fun unwritten => ⟨readRV_bind_faults hs unwritten, readRV_bind_faults hs unwritten, readRV_bind_faults hs unwritten⟩,
    fun _ held hd => runTop_becomes hs (takeCaught_held held hd),
    fun empty => runTop_faultsAt (p := s.ports) hs (takeCaught_empty empty)⟩

/-! ### Constants (R217 to R227) -/

section
variable {s : State} {a : Activation} {rest : List Activation} {d n i : Nat} {p : Ports}

theorem loadI32_becomes (v : Word32) (hs : s.stack = a :: rest) (hd : d < a.regs.length) :
    runTop (loadI32 d n v) s = becomes s rest (a.with32 d v n) := runTop_becomes hs (handler_bind_ok (writeI32_ok v hd))

theorem loadI64_becomes (v : Word64) (hs : s.stack = a :: rest) (hd : d + 1 < a.regs.length) :
    runTop (loadI64 d n v) s = becomes s rest (a.with64 d v n) := runTop_becomes hs (handler_bind_ok (writeI64_ok v hd))

theorem loadString_becomes {h : Handle} (hs : s.stack = a :: rest) (hd : d < a.regs.length)
    (answer : resolveString i s.ports = (h, p)) :
    runTop (loadString d n i) s = becomesAt s rest (a.withRef d h n) p :=
  have asked := ask_of_eq (c := .enter s a rest) answer
  runTop_becomesAt hs ((handler_bind_ok asked).trans (handler_bind_ok (writeRef_ok h hd)))

theorem loadClass_becomes {h : Handle} (hs : s.stack = a :: rest) (hd : d < a.regs.length)
    (resolved : resolveClass i s.ports = (.ok h, p)) :
    runTop (loadClass d i) s = becomesAt s rest (a.withRef d h 2) p :=
  have ref := classRef_ok (c := .enter s a rest) resolved
  runTop_becomesAt hs ((handler_bind_ok ref).trans (handler_bind_ok (writeRef_ok h hd)))

/-- X7 before the destination is looked at. -/
theorem loadClass_raises {e : Handle} (hs : s.stack = a :: rest) (failed : resolveClass i s.ports = (.fails e, p)) :
    runTop (loadClass d i) s = raises s a rest a.pc e p :=
  runTop_raises hs (handler_bind_error (classRef_raised failed))

end

/-- Settles O19: the eleven are four handlers; a sign extension is the literal's integer at the wider width. -/
theorem constantsComplete : Obligations.ConstantsComplete := fun _ _ _ hs =>
  ⟨fun _ _ => loadI32_becomes _ hs,
    fun _ _ hd => ⟨loadI32_becomes _ hs hd, loadI32_becomes _ hs hd⟩,
    fun _ v => loadI32_becomes v hs,
    fun _ _ hd => ⟨loadI64_becomes _ hs hd, loadI64_becomes _ hs hd⟩,
    fun _ _ => loadI64_becomes _ hs,
    fun _ v => loadI64_becomes v hs,
    fun _ _ _ => ⟨fun _ => loadString_becomes hs, fun _ => loadString_becomes hs, fun _ => loadClass_becomes hs,
      fun _ => loadClass_raises hs⟩⟩

end Sys2Proof.Machine
end

section
/-! Integer arithmetic (spec/42_arith_int.md R250 to R322): what the operations on patterns are in the integers, and what
each operand form gives for operands that read. -/

namespace Sys2Proof.Machine

/-! ### Quotient and remainder (R251) -/

theorem toInt_ne_zero_iff {w : Nat} {y : BitVec w} : y.toInt ≠ 0 ↔ y ≠ 0#w := by
  rw [← BitVec.toInt_ne, BitVec.toInt_zero]

section
variable {w : Nat} (x y : BitVec w)

/-- A truncated remainder is smaller than its divisor, so wrapping it to the width changes nothing. -/
theorem ofInt_remainder_eq_srem : BitVec.ofInt w (x.toInt - y.toInt * x.toInt.tdiv y.toInt) = x.srem y := by
  rw [← Int.tmod_def, ← BitVec.toInt_srem, BitVec.ofInt_toInt]

theorem mul_ofInt_tdiv_add_srem : y * BitVec.ofInt w (x.toInt.tdiv y.toInt) + x.srem y = x :=
  calc y * BitVec.ofInt w (x.toInt.tdiv y.toInt) + x.srem y
      = BitVec.ofInt w (y.toInt * x.toInt.tdiv y.toInt + x.toInt.tmod y.toInt) := by
        rw [BitVec.ofInt_add, BitVec.ofInt_mul, BitVec.ofInt_toInt, ← BitVec.toInt_srem, BitVec.ofInt_toInt]
    _ = x := by rw [Int.mul_tdiv_add_tmod, BitVec.ofInt_toInt]

theorem natAbs_toInt_srem_lt (hy : y ≠ 0#w) : (x.srem y).toInt.natAbs < y.toInt.natAbs := by
  rw [BitVec.toInt_srem, Int.natAbs_tmod]
  exact Nat.mod_lt _ (Int.natAbs_pos.2 (toInt_ne_zero_iff.2 hy))

theorem sign_toInt_srem : (x.srem y).toInt = 0 ∨ (x.srem y).toInt.sign = x.toInt.sign := by
  rw [BitVec.toInt_srem, Int.sign_tmod]
  by_cases h : y.toInt ∣ x.toInt
  · exact .inl (Int.tmod_eq_zero_of_dvd h)
  · exact .inr (if_neg h)

/-- The division laws of R251 at every width. -/
theorem division_laws (hy : y ≠ 0#w) :
    let quotient := BitVec.ofInt w (x.toInt.tdiv y.toInt)
    let remainder := BitVec.ofInt w (x.toInt - y.toInt * x.toInt.tdiv y.toInt)
    y * quotient + remainder = x ∧ remainder.toInt.natAbs < y.toInt.natAbs ∧
      (remainder.toInt = 0 ∨ remainder.toInt.sign = x.toInt.sign) := by
  dsimp only
  rw [ofInt_remainder_eq_srem]
  exact ⟨mul_ofInt_tdiv_add_srem x y, natAbs_toInt_srem_lt x y hy, sign_toInt_srem x y⟩

end

/-- Settles O24: the laws hold at every width, and MIN / −1 is evaluated at both. -/
theorem divisionLaws : Obligations.DivisionLaws :=
  ⟨division_laws, division_laws, by decide, by decide, by decide, by decide⟩

theorem rem32_eq_tmod (x y : Word32) : rem32 x y = BitVec.ofInt 32 (x.toInt.tmod y.toInt) := by
  rw [rem32, wrap32, Int.tmod_def]
theorem rem64_eq_tmod (x y : Word64) : rem64 x y = BitVec.ofInt 64 (x.toInt.tmod y.toInt) := by
  rw [rem64, wrap64, Int.tmod_def]

/-! ### Negation and complement (R255 to R258) -/

theorem neg32_eq (x : Word32) : neg32 x = BitVec.ofInt 32 (-x.toInt) := by rw [neg32, wrap32, Int.zero_sub]
theorem neg64_eq (x : Word64) : neg64 x = BitVec.ofInt 64 (-x.toInt) := by rw [neg64, wrap64, Int.zero_sub]
theorem not32_eq (x : Word32) : not32 x = ~~~x := BitVec.xor_allOnes
theorem not64_eq (x : Word64) : not64 x = ~~~x := BitVec.xor_allOnes

/-! ### Shifts (R252) -/

section
variable {w : Nat} (x : BitVec w) (n : Nat)

theorem shiftLeft_eq_ofNat : x <<< n = BitVec.ofNat w (x.toNat * 2 ^ n) :=
  BitVec.eq_of_toNat_eq (by rw [BitVec.toNat_shiftLeft, Nat.shiftLeft_eq, BitVec.toNat_ofNat])

theorem sshiftRight_eq_ofInt : x.sshiftRight n = BitVec.ofInt w (x.toInt.fdiv (2 ^ n)) := by
  rw [BitVec.sshiftRight, Int.shiftRight_eq_div_pow, Int.fdiv_eq_ediv_of_nonneg _ (by positivity), Nat.cast_pow,
    Nat.cast_ofNat]

theorem ushiftRight_eq_ofNat : x >>> n = BitVec.ofNat w (x.toNat / 2 ^ n) := by
  rw [← Nat.shiftRight_eq_div_pow, ← BitVec.toNat_ushiftRight, BitVec.ofNat_toNat, BitVec.setWidth_eq]

end

theorem amount32_eq (y : Word32) : amount32 y = y.toNat % 32 := by
  rw [amount32, BitVec.extractLsb'_toNat, Nat.shiftRight_zero]
theorem amount64_eq (n : Word32) : amount64 n = n.toNat % 64 := by
  rw [amount64, BitVec.extractLsb'_toNat, Nat.shiftRight_zero]

theorem shl32_eq (x y : Word32) : shl32 x y = BitVec.ofNat 32 (x.toNat * 2 ^ (y.toNat % 32)) := by
  rw [shl32, amount32_eq, shiftLeft_eq_ofNat]
theorem shr32_eq (x y : Word32) : shr32 x y = BitVec.ofInt 32 (x.toInt.fdiv (2 ^ (y.toNat % 32))) := by
  rw [shr32, amount32_eq, sshiftRight_eq_ofInt]
theorem ushr32_eq (x y : Word32) : ushr32 x y = BitVec.ofNat 32 (x.toNat / 2 ^ (y.toNat % 32)) := by
  rw [ushr32, amount32_eq, ushiftRight_eq_ofNat]

theorem shl64_eq (x : Word64) (n : Word32) : shl64 x n = BitVec.ofNat 64 (x.toNat * 2 ^ (n.toNat % 64)) := by
  rw [shl64, amount64_eq, shiftLeft_eq_ofNat]
theorem shr64_eq (x : Word64) (n : Word32) : shr64 x n = BitVec.ofInt 64 (x.toInt.fdiv (2 ^ (n.toNat % 64))) := by
  rw [shr64, amount64_eq, sshiftRight_eq_ofInt]
theorem ushr64_eq (x : Word64) (n : Word32) : ushr64 x n = BitVec.ofNat 64 (x.toNat / 2 ^ (n.toNat % 64)) := by
  rw [ushr64, amount64_eq, ushiftRight_eq_ofNat]

/-! ### Narrowings (R359) -/

/-- The low `k` bits, as a signed number: the balanced residue of the whole. -/
theorem toInt_extractLsb'_zero {w k : Nat} (h : k ≤ w) (x : BitVec w) :
    (x.extractLsb' 0 k).toInt = x.toInt.bmod (2 ^ k) := by
  rw [BitVec.toInt_extractLsb', Nat.shiftRight_zero, BitVec.toInt_eq_toNat_bmod x,
    Int.bmod_bmod_of_dvd (Nat.pow_dvd_pow 2 h)]

theorem toByte32_eq (x : Word32) : toByte32 x = BitVec.ofInt 32 ((x.toInt + 128) % 256 - 128) := by
  have balanced : x.toInt.bmod (2 ^ 8) = (x.toInt + 128) % 256 - 128 := by rw [Int.bmod_def]; omega
  rw [toByte32, BitVec.signExtend, toInt_extractLsb'_zero (by decide), balanced]

theorem toShort32_eq (x : Word32) : toShort32 x = BitVec.ofInt 32 ((x.toInt + 32768) % 65536 - 32768) := by
  have balanced : x.toInt.bmod (2 ^ 16) = (x.toInt + 32768) % 65536 - 32768 := by rw [Int.bmod_def]; omega
  rw [toShort32, BitVec.signExtend, toInt_extractLsb'_zero (by decide), balanced]

theorem toChar32_eq (x : Word32) : toChar32 x = BitVec.ofInt 32 (x.toInt % 65536) := by
  have low : x.toInt % 65536 = ((x.toNat % 2 ^ 16 : Nat) : Int) := by
    rw [BitVec.toInt_eq_toNat_cond]; split <;> omega
  rw [low, BitVec.ofInt_natCast, toChar32, ← BitVec.ofNat_toNat, BitVec.extractLsb'_toNat, Nat.shiftRight_zero]

/-! ### cmp-long (R259) -/

theorem compareLong_eq (x y : Word64) : compareLong x y =
    if x.toInt < y.toInt then 0xffffffff#32 else if y.toInt < x.toInt then 1#32 else 0#32 := by
  obtain lt | eq | gt := lt_trichotomy x.toInt y.toInt
  · rw [compareLong, compare_lt_iff_lt.2 lt, if_pos lt, triState]
  · rw [compareLong, compare_eq_iff_eq.2 eq, if_neg eq.not_lt, if_neg eq.not_gt, triState]
  · rw [compareLong, compare_gt_iff_gt.2 gt, if_neg gt.not_gt, if_pos gt, triState]

/-! ### Literals (R253) -/

section
variable {k : Nat} (h : k ≤ 32) (x : Word32) (c : BitVec k)
include h

theorem add32_literal : add32 x (c.signExtend 32) = BitVec.ofInt 32 (x.toInt + c.toInt) := by
  rw [add32, wrap32, BitVec.toInt_signExtend_of_le h]
theorem rsub32_literal : rsub32 x (c.signExtend 32) = BitVec.ofInt 32 (c.toInt - x.toInt) := by
  rw [rsub32, wrap32, BitVec.toInt_signExtend_of_le h]
theorem mul32_literal : mul32 x (c.signExtend 32) = BitVec.ofInt 32 (x.toInt * c.toInt) := by
  rw [mul32, wrap32, BitVec.toInt_signExtend_of_le h]
theorem div32_literal : div32 x (c.signExtend 32) = BitVec.ofInt 32 (x.toInt.tdiv c.toInt) := by
  rw [div32, wrap32, BitVec.toInt_signExtend_of_le h]
theorem rem32_literal : rem32 x (c.signExtend 32) = BitVec.ofInt 32 (x.toInt.tmod c.toInt) := by
  rw [rem32_eq_tmod, BitVec.toInt_signExtend_of_le h]

theorem literal_ne_zero (nonzero : c.toInt ≠ 0) : c.signExtend 32 ≠ 0#32 := by
  rwa [← toInt_ne_zero_iff, BitVec.toInt_signExtend_of_le h]

end

/-- The low five bits of a sign-extended byte are those of the byte. -/
theorem toNat_signExtend_mod (c : BitVec 8) : (c.signExtend 32).toNat % 32 = c.toNat % 32 := by
  rw [BitVec.toNat_signExtend, BitVec.toNat_setWidth]
  split <;> omega

/-! ### Operand forms (R250, R253) -/

theorem i32_lt {a : Activation} {r : Nat} {v : Word32} (h : a.i32 r = .ok v) : r < a.regs.length := by
  rw [Activation.i32] at h
  cases read : a.slot r with
  | ok u => exact slot_lt read
  | error f => rw [read] at h; cases h

theorem i64_lt {a : Activation} {r : Nat} {v : Word64} (h : a.i64 r = .ok v) : r + 1 < a.regs.length := by
  rw [Activation.i64] at h
  split at h
  next inside => exact inside
  next => cases h

section
variable {s : State} {a : Activation} {rest : List Activation} {d l r n : Nat} {x y lit : Word32}

theorem intUnary_becomes (hs : s.stack = a :: rest) (hr : a.i32 r = .ok x) (hd : d < a.regs.length)
    (f : Word32 → Word32) ⦃v : Word32⦄ (hv : f x = v) :
    runTop (intUnary d r f) s = becomes s rest (a.with32 d v 1) := by
  subst hv
  exact runTop_becomes hs ((handler_bind_ok (readI32_ok hr)).trans (handler_bind_ok (writeI32_ok _ hd)))

theorem intBinary_becomes (hs : s.stack = a :: rest) (hl : a.i32 l = .ok x) (hr : a.i32 r = .ok y)
    (hd : d < a.regs.length) (f : Word32 → Word32 → Word32) ⦃v : Word32⦄ (hv : f x y = v) :
    runTop (intBinary d l r n f) s = becomes s rest (a.with32 d v n) := by
  subst hv
  exact runTop_becomes hs <| (handler_bind_ok (readI32_ok hl)).trans <| (handler_bind_ok (readI32_ok hr)).trans <|
    handler_bind_ok (writeI32_ok _ hd)

theorem intLiteral_becomes (hs : s.stack = a :: rest) (hr : a.i32 r = .ok x) (hd : d < a.regs.length)
    (f : Word32 → Word32 → Word32) ⦃v : Word32⦄ (hv : f x lit = v) :
    runTop (intLiteral d r lit f) s = becomes s rest (a.with32 d v 2) := by
  subst hv
  exact runTop_becomes hs ((handler_bind_ok (readI32_ok hr)).trans (handler_bind_ok (writeI32_ok _ hd)))

theorem intDivide_becomes (hs : s.stack = a :: rest) (hl : a.i32 l = .ok x) (hr : a.i32 r = .ok y)
    (nonzero : y ≠ 0#32) (hd : d < a.regs.length) (f : Word32 → Word32 → Word32) ⦃v : Word32⦄ (hv : f x y = v) :
    runTop (intDivide d l r n f) s = becomes s rest (a.with32 d v n) := by
  subst hv
  exact runTop_becomes hs <| (handler_bind_ok (readI32_ok hl)).trans <| (handler_bind_ok (readI32_ok hr)).trans <|
    (congrFun (if_neg nonzero) _).trans (handler_bind_ok (writeI32_ok _ hd))

theorem intLiteralDivide_becomes (hs : s.stack = a :: rest) (hr : a.i32 r = .ok x) (nonzero : lit ≠ 0#32)
    (hd : d < a.regs.length) (f : Word32 → Word32 → Word32) ⦃v : Word32⦄ (hv : f x lit = v) :
    runTop (intLiteralDivide d r lit f) s = becomes s rest (a.with32 d v 2) := by
  subst hv
  exact runTop_becomes hs <| (handler_bind_ok (readI32_ok hr)).trans <|
    (congrFun (if_neg nonzero) _).trans (handler_bind_ok (writeI32_ok _ hd))

end

section
variable {s : State} {a : Activation} {rest : List Activation} {d l r n : Nat} {x y : Word64} {m : Word32}

theorem longUnary_becomes (hs : s.stack = a :: rest) (hr : a.i64 r = .ok x) (hd : d + 1 < a.regs.length)
    (f : Word64 → Word64) ⦃v : Word64⦄ (hv : f x = v) :
    runTop (longUnary d r f) s = becomes s rest (a.with64 d v 1) := by
  subst hv
  exact runTop_becomes hs ((handler_bind_ok (readI64_ok hr)).trans (handler_bind_ok (writeI64_ok _ hd)))

theorem longBinary_becomes (hs : s.stack = a :: rest) (hl : a.i64 l = .ok x) (hr : a.i64 r = .ok y)
    (hd : d + 1 < a.regs.length) (f : Word64 → Word64 → Word64) ⦃v : Word64⦄ (hv : f x y = v) :
    runTop (longBinary d l r n f) s = becomes s rest (a.with64 d v n) := by
  subst hv
  exact runTop_becomes hs <| (handler_bind_ok (readI64_ok hl)).trans <| (handler_bind_ok (readI64_ok hr)).trans <|
    handler_bind_ok (writeI64_ok _ hd)

theorem longShift_becomes (hs : s.stack = a :: rest) (hl : a.i64 l = .ok x) (hr : a.i32 r = .ok m)
    (hd : d + 1 < a.regs.length) (f : Word64 → Word32 → Word64) ⦃v : Word64⦄ (hv : f x m = v) :
    runTop (longShift d l r n f) s = becomes s rest (a.with64 d v n) := by
  subst hv
  exact runTop_becomes hs <| (handler_bind_ok (readI64_ok hl)).trans <| (handler_bind_ok (readI32_ok hr)).trans <|
    handler_bind_ok (writeI64_ok _ hd)

theorem longCompare_becomes (hs : s.stack = a :: rest) (hl : a.i64 l = .ok x) (hr : a.i64 r = .ok y)
    (hd : d < a.regs.length) : runTop (longCompare d l r) s = becomes s rest (a.with32 d (compareLong x y) 2) :=
  runTop_becomes hs <| (handler_bind_ok (readI64_ok hl)).trans <| (handler_bind_ok (readI64_ok hr)).trans <|
    handler_bind_ok (writeI32_ok _ hd)

theorem longDivide_becomes (hs : s.stack = a :: rest) (hl : a.i64 l = .ok x) (hr : a.i64 r = .ok y)
    (nonzero : y ≠ 0#64) (hd : d + 1 < a.regs.length) (f : Word64 → Word64 → Word64) ⦃v : Word64⦄ (hv : f x y = v) :
    runTop (longDivide d l r n f) s = becomes s rest (a.with64 d v n) := by
  subst hv
  exact runTop_becomes hs <| (handler_bind_ok (readI64_ok hl)).trans <| (handler_bind_ok (readI64_ok hr)).trans <|
    (congrFun (if_neg nonzero) _).trans (handler_bind_ok (writeI64_ok _ hd))

end

/-! ### Division by zero (R251) -/

section
variable {s : State} {a : Activation} {rest : List Activation} {d l r n : Nat} {e : Handle} {p : Ports}

/-- An exception of the engine's own, made by the host (R602, R603). -/
theorem raise_new_of_eq {α : Type} {x : NewException} {c : Ctx} (made : throwNew x c.ports = (e, p)) :
    (raise (.new x) : Handler α) c = .error (.raised e) { c with ports := p } := by
  rw [raise_run, exceptionObject, made]

theorem intDivide_raises {x : Word32} {f : Word32 → Word32 → Word32} (hs : s.stack = a :: rest)
    (made : throwNew .arithmetic s.ports = (e, p)) (hl : a.i32 l = .ok x) (hr : a.i32 r = .ok 0#32) :
    runTop (intDivide d l r n f) s = raises s a rest a.pc e p :=
  runTop_raises hs <| (handler_bind_ok (readI32_ok hl)).trans <| (handler_bind_ok (readI32_ok hr)).trans <|
    (congrFun (if_pos rfl) _).trans (raise_new_of_eq made)

theorem intLiteralDivide_raises {x lit : Word32} {f : Word32 → Word32 → Word32} (hs : s.stack = a :: rest)
    (made : throwNew .arithmetic s.ports = (e, p)) (hr : a.i32 r = .ok x) (zero : lit = 0#32) :
    runTop (intLiteralDivide d r lit f) s = raises s a rest a.pc e p :=
  runTop_raises hs <| (handler_bind_ok (readI32_ok hr)).trans <|
    (congrFun (if_pos zero) _).trans (raise_new_of_eq made)

theorem longDivide_raises {x : Word64} {f : Word64 → Word64 → Word64} (hs : s.stack = a :: rest)
    (made : throwNew .arithmetic s.ports = (e, p)) (hl : a.i64 l = .ok x) (hr : a.i64 r = .ok 0#64) :
    runTop (longDivide d l r n f) s = raises s a rest a.pc e p :=
  runTop_raises hs <| (handler_bind_ok (readI64_ok hl)).trans <| (handler_bind_ok (readI64_ok hr)).trans <|
    (congrFun (if_pos rfl) _).trans (raise_new_of_eq made)

end

/-! ### The instructions -/

/-- Settles O20: nine operations in one binary form, whose /2addr destination has been read and so is in range, and five in
the unary form. -/
theorem intRegisterResult : Obligations.IntRegisterResult := fun _ _ _ x y hs =>
  ⟨fun _ _ _ hl hr hd =>
      have run := intBinary_becomes (n := 2) hs hl hr hd
      ⟨run add32 rfl, run sub32 rfl, run mul32 rfl, run and32 rfl, run or32 rfl, run xor32 rfl,
        run shl32 (shl32_eq x y), run shr32 (shr32_eq x y), run ushr32 (ushr32_eq x y)⟩,
    fun _ _ hl hr =>
      have run := intBinary_becomes (n := 1) hs hl hr (i32_lt hl)
      ⟨run add32 rfl, run sub32 rfl, run mul32 rfl, run and32 rfl, run or32 rfl, run xor32 rfl,
        run shl32 (shl32_eq x y), run shr32 (shr32_eq x y), run ushr32 (ushr32_eq x y)⟩,
    fun _ _ hr hd =>
      have run := intUnary_becomes hs hr hd
      ⟨run neg32 (neg32_eq x), run not32 (not32_eq x), run toByte32 (toByte32_eq x), run toChar32 (toChar32_eq x),
        run toShort32 (toShort32_eq x)⟩⟩

/-- Settles O21: a sign-extended literal is its own integer, and its low five bits are its own. -/
theorem intLiteralResult : Obligations.IntLiteralResult := fun _ _ _ x hs =>
  ⟨fun _ _ c hr hd =>
      have run := intLiteral_becomes (lit := c.signExtend 32) hs hr hd
      have fits : 16 ≤ 32 := by decide
      ⟨run add32 (add32_literal fits x c), run rsub32 (rsub32_literal fits x c), run mul32 (mul32_literal fits x c),
        run and32 rfl, run or32 rfl, run xor32 rfl⟩,
    fun _ _ c hr hd =>
      have run := intLiteral_becomes (lit := c.signExtend 32) hs hr hd
      have fits : 8 ≤ 32 := by decide
      have amount := toNat_signExtend_mod c
      ⟨run add32 (add32_literal fits x c), run rsub32 (rsub32_literal fits x c), run mul32 (mul32_literal fits x c),
        run and32 rfl, run or32 rfl, run xor32 rfl,
        run shl32 (amount ▸ shl32_eq x _), run shr32 (amount ▸ shr32_eq x _), run ushr32 (amount ▸ ushr32_eq x _)⟩⟩

/-- Settles O22: pairs with pairs, pairs with an int amount, one pair, and the comparison, which writes one register. -/
theorem longRegisterResult : Obligations.LongRegisterResult := fun _ _ _ x y m hs =>
  ⟨fun _ _ _ hl hd =>
      ⟨fun hr =>
        have run := longBinary_becomes (n := 2) hs hl hr hd
        ⟨run add64 rfl, run sub64 rfl, run mul64 rfl, run and64 rfl, run or64 rfl, run xor64 rfl⟩,
      fun hr =>
        have run := longShift_becomes (n := 2) hs hl hr hd
        ⟨run shl64 (shl64_eq x m), run shr64 (shr64_eq x m), run ushr64 (ushr64_eq x m)⟩⟩,
    fun _ _ hl =>
      ⟨fun hr =>
        have run := longBinary_becomes (n := 1) hs hl hr (i64_lt hl)
        ⟨run add64 rfl, run sub64 rfl, run mul64 rfl, run and64 rfl, run or64 rfl, run xor64 rfl⟩,
      fun hr =>
        have run := longShift_becomes (n := 1) hs hl hr (i64_lt hl)
        ⟨run shl64 (shl64_eq x m), run shr64 (shr64_eq x m), run ushr64 (ushr64_eq x m)⟩⟩,
    fun _ _ hr hd =>
      have run := longUnary_becomes hs hr hd
      ⟨run neg64 (neg64_eq x), run not64 (not64_eq x)⟩,
    fun _ _ _ hl hr hd => compareLong_eq x y ▸ longCompare_becomes hs hl hr hd⟩

/-- Settles O23: each form tests its divisor after its reads, and a divisor that is not zero as a number is not zero as a
word. -/
theorem divideAndRemainder : Obligations.DivideAndRemainder :=
  ⟨fun _ _ _ hs =>
    ⟨fun x =>
      ⟨fun _ _ _ y hl hr nonzero hd =>
          have run := intDivide_becomes (n := 2) hs hl hr (toInt_ne_zero_iff.1 nonzero) hd
          ⟨run div32 rfl, run rem32 (rem32_eq_tmod x y)⟩,
        fun _ _ y hl hr nonzero =>
          have run := intDivide_becomes (n := 1) hs hl hr (toInt_ne_zero_iff.1 nonzero) (i32_lt hl)
          ⟨run div32 rfl, run rem32 (rem32_eq_tmod x y)⟩,
        fun _ _ c hr nonzero hd =>
          have fits : 16 ≤ 32 := by decide
          have run := intLiteralDivide_becomes hs hr (literal_ne_zero fits c nonzero) hd
          ⟨run div32 (div32_literal fits x c), run rem32 (rem32_literal fits x c)⟩,
        fun _ _ c hr nonzero hd =>
          have fits : 8 ≤ 32 := by decide
          have run := intLiteralDivide_becomes hs hr (literal_ne_zero fits c nonzero) hd
          ⟨run div32 (div32_literal fits x c), run rem32 (rem32_literal fits x c)⟩⟩,
      fun x y nonzero =>
      ⟨fun _ _ _ hl hr hd =>
          have run := longDivide_becomes (n := 2) hs hl hr (toInt_ne_zero_iff.1 nonzero) hd
          ⟨run div64 rfl, run rem64 (rem64_eq_tmod x y)⟩,
        fun _ _ hl hr =>
          have run := longDivide_becomes (n := 1) hs hl hr (toInt_ne_zero_iff.1 nonzero) (i64_lt hl)
          ⟨run div64 rfl, run rem64 (rem64_eq_tmod x y)⟩⟩⟩,
    fun _ _ _ _ _ hs made =>
      ⟨fun _ _ _ _ hl hr => ⟨intDivide_raises hs made hl hr, intDivide_raises hs made hl hr⟩,
        fun _ _ _ hl hr => ⟨intDivide_raises hs made hl hr, intDivide_raises hs made hl hr⟩,
        fun _ _ _ hr => ⟨intLiteralDivide_raises hs made hr rfl, intLiteralDivide_raises hs made hr rfl⟩,
        fun _ _ _ hr => ⟨intLiteralDivide_raises hs made hr rfl, intLiteralDivide_raises hs made hr rfl⟩,
        fun _ _ _ _ hl hr => ⟨longDivide_raises hs made hl hr, longDivide_raises hs made hl hr⟩,
        fun _ _ _ hl hr => ⟨longDivide_raises hs made hl hr, longDivide_raises hs made hl hr⟩⟩⟩

end Sys2Proof.Machine
end

section
/-! The float and double instructions (spec/43_arith_float_conv.md R356 to R409): what each operand form gives for operands
that read. -/

namespace Sys2Proof.Machine

section
variable {s : State} {a : Activation} {rest : List Activation} {d l r n : Nat} {p : Ports}

/-! ### Arithmetic (R390 to R409) -/

theorem floatBinary_becomesAt {x y w : Word32} {f : FloatFormat → FloatValue → FloatValue → Option Nat}
    (hs : s.stack = a :: rest) (drawn : produce32 (f binary32 (asF32 x) (asF32 y)) s.ports = (w, p))
    (hl : a.i32 l = .ok x) (hr : a.i32 r = .ok y) (hd : d < a.regs.length) :
    runTop (floatBinary d l r n f) s = becomesAt s rest (a.withF32 d w n) p :=
  runTop_becomesAt hs <| (handler_bind_ok (readF32_ok hl)).trans <| (handler_bind_ok (readF32_ok hr)).trans <|
    (handler_bind_ok (ask_of_eq (c := .enter s a rest) drawn)).trans (handler_bind_ok (writeF32_ok w hd))

theorem doubleBinary_becomesAt {x y w : Word64} {f : FloatFormat → FloatValue → FloatValue → Option Nat}
    (hs : s.stack = a :: rest) (drawn : produce64 (f binary64 (asF64 x) (asF64 y)) s.ports = (w, p))
    (hl : a.i64 l = .ok x) (hr : a.i64 r = .ok y) (hd : d + 1 < a.regs.length) :
    runTop (doubleBinary d l r n f) s = becomesAt s rest (a.with64 d w n) p :=
  runTop_becomesAt hs <| (handler_bind_ok (readF64_ok hl)).trans <| (handler_bind_ok (readF64_ok hr)).trans <|
    (handler_bind_ok (ask_of_eq (c := .enter s a rest) drawn)).trans (handler_bind_ok (writeI64_ok w hd))

/-! ### Comparisons (R356) -/

theorem compareFloat_nan {u v : FloatValue} (h : u = .nan ∨ v = .nan) (bias : Word32) : compareFloat bias u v = bias := by
  rcases h with rfl | rfl
  · rfl
  · cases u <;> rfl

theorem compareFloat_of_order {u v : FloatValue} {o : Ordering} (h : u.order v = some o) (bias : Word32) :
    compareFloat bias u v = triState o := by
  rw [compareFloat, h]

theorem floatCompare_becomes {x y bias v : Word32} (hs : s.stack = a :: rest) (hl : a.i32 l = .ok x)
    (hr : a.i32 r = .ok y) (hd : d < a.regs.length) (hv : compareFloat bias (asF32 x) (asF32 y) = v) :
    runTop (floatCompare d l r bias) s = becomes s rest (a.with32 d v 2) :=
  runTop_becomes hs <| (handler_bind_ok (readF32_ok hl)).trans <| (handler_bind_ok (readF32_ok hr)).trans <|
    hv ▸ handler_bind_ok (writeI32_ok _ hd)

theorem doubleCompare_becomes {x y : Word64} {bias v : Word32} (hs : s.stack = a :: rest) (hl : a.i64 l = .ok x)
    (hr : a.i64 r = .ok y) (hd : d < a.regs.length) (hv : compareFloat bias (asF64 x) (asF64 y) = v) :
    runTop (doubleCompare d l r bias) s = becomes s rest (a.with32 d v 2) :=
  runTop_becomes hs <| (handler_bind_ok (readF64_ok hl)).trans <| (handler_bind_ok (readF64_ok hr)).trans <|
    hv ▸ handler_bind_ok (writeI32_ok _ hd)

/-! ### Operations of one operand (R364, R365, R370 to R381) -/

section
variable {x : Word32}

theorem read32_write32_becomes (hs : s.stack = a :: rest) (hr : a.i32 r = .ok x) (hd : d < a.regs.length)
    (f : Word32 → Word32) :
    runTop (do let v ← readI32 r; writeI32 d (f v); advance 1) s = becomes s rest (a.with32 d (f x) 1) :=
  runTop_becomes hs ((handler_bind_ok (readI32_ok hr)).trans (handler_bind_ok (writeI32_ok _ hd)))

theorem read32_writeF32_becomes (hs : s.stack = a :: rest) (hr : a.i32 r = .ok x) (hd : d < a.regs.length)
    (f : Word32 → Word32) :
    runTop (do let v ← readI32 r; writeF32 d (f v); advance 1) s = becomes s rest (a.withF32 d (f x) 1) :=
  runTop_becomes hs ((handler_bind_ok (readI32_ok hr)).trans (handler_bind_ok (writeF32_ok _ hd)))

theorem read32_write64_becomes (hs : s.stack = a :: rest) (hr : a.i32 r = .ok x) (hd : d + 1 < a.regs.length)
    (f : Word32 → Word64) :
    runTop (do let v ← readI32 r; writeI64 d (f v); advance 1) s = becomes s rest (a.with64 d (f x) 1) :=
  runTop_becomes hs ((handler_bind_ok (readI32_ok hr)).trans (handler_bind_ok (writeI64_ok _ hd)))

theorem floatToDoubleOp_becomesAt {w : Word64} (hs : s.stack = a :: rest) (hr : a.i32 r = .ok x)
    (hd : d + 1 < a.regs.length) (drawn : produce64 (binary64.convert (asF32 x)) s.ports = (w, p)) :
    runTop (floatToDoubleOp d r) s = becomesAt s rest (a.with64 d w 1) p :=
  runTop_becomesAt hs <| (handler_bind_ok (readF32_ok hr)).trans <|
    (handler_bind_ok (ask_of_eq (c := .enter s a rest) drawn)).trans (handler_bind_ok (writeI64_ok w hd))

end

section
variable {x : Word64}

theorem read64_write32_becomes (hs : s.stack = a :: rest) (hr : a.i64 r = .ok x) (hd : d < a.regs.length)
    (f : Word64 → Word32) :
    runTop (do let v ← readI64 r; writeI32 d (f v); advance 1) s = becomes s rest (a.with32 d (f x) 1) :=
  runTop_becomes hs ((handler_bind_ok (readI64_ok hr)).trans (handler_bind_ok (writeI32_ok _ hd)))

theorem read64_writeF32_becomes (hs : s.stack = a :: rest) (hr : a.i64 r = .ok x) (hd : d < a.regs.length)
    (f : Word64 → Word32) :
    runTop (do let v ← readI64 r; writeF32 d (f v); advance 1) s = becomes s rest (a.withF32 d (f x) 1) :=
  runTop_becomes hs ((handler_bind_ok (readI64_ok hr)).trans (handler_bind_ok (writeF32_ok _ hd)))

theorem read64_write64_becomes (hs : s.stack = a :: rest) (hr : a.i64 r = .ok x) (hd : d + 1 < a.regs.length)
    (f : Word64 → Word64) :
    runTop (do let v ← readI64 r; writeI64 d (f v); advance 1) s = becomes s rest (a.with64 d (f x) 1) :=
  runTop_becomes hs ((handler_bind_ok (readI64_ok hr)).trans (handler_bind_ok (writeI64_ok _ hd)))

theorem doubleToFloatOp_becomesAt {w : Word32} (hs : s.stack = a :: rest) (hr : a.i64 r = .ok x)
    (hd : d < a.regs.length) (drawn : produce32 (binary32.convert (asF64 x)) s.ports = (w, p)) :
    runTop (doubleToFloatOp d r) s = becomesAt s rest (a.withF32 d w 1) p :=
  runTop_becomesAt hs <| (handler_bind_ok (readF64_ok hr)).trans <|
    (handler_bind_ok (ask_of_eq (c := .enter s a rest) drawn)).trans (handler_bind_ok (writeF32_ok w hd))

end

end

/-- The low word of a long is the long's integer wrapped (R373). -/
theorem extractLsb'_eq_ofInt_toInt (x : Word64) : x.extractLsb' 0 32 = BitVec.ofInt 32 x.toInt := by
  rw [← BitVec.toInt_inj, toInt_extractLsb'_zero (by decide), BitVec.toInt_ofInt]

/-! ### The instructions -/

/-- Settles O25: ten instructions are one handler and ten the other; a /2addr destination has been read and so is in
range. -/
theorem floatArithmetic : Obligations.FloatArithmetic := by
  intro s a rest p hs
  refine ⟨fun x y w f three two op drawn => ?_, fun x y w f three two op drawn => ?_⟩
  · have same : (∀ d l r, exec (three d l r) s = runTop (floatBinary d.toNat l.toNat r.toNat 2 f) s) ∧
        ∀ d r, exec (two d r) s = runTop (floatBinary d.toNat d.toNat r.toNat 1 f) s := by
      simp only [List.mem_cons, List.not_mem_nil, or_false, Prod.mk.injEq] at op
      rcases op with ⟨rfl, rfl, rfl⟩ | ⟨rfl, rfl, rfl⟩ | ⟨rfl, rfl, rfl⟩ | ⟨rfl, rfl, rfl⟩ | ⟨rfl, rfl, rfl⟩ <;>
        exact ⟨fun _ _ _ => rfl, fun _ _ => rfl⟩
    exact ⟨fun d l r hl hr hd => (same.1 d l r).trans (floatBinary_becomesAt hs drawn hl hr hd),
      fun d r hl hr => (same.2 d r).trans (floatBinary_becomesAt hs drawn hl hr (i32_lt hl))⟩
  · have same : (∀ d l r, exec (three d l r) s = runTop (doubleBinary d.toNat l.toNat r.toNat 2 f) s) ∧
        ∀ d r, exec (two d r) s = runTop (doubleBinary d.toNat d.toNat r.toNat 1 f) s := by
      simp only [List.mem_cons, List.not_mem_nil, or_false, Prod.mk.injEq] at op
      rcases op with ⟨rfl, rfl, rfl⟩ | ⟨rfl, rfl, rfl⟩ | ⟨rfl, rfl, rfl⟩ | ⟨rfl, rfl, rfl⟩ | ⟨rfl, rfl, rfl⟩ <;>
        exact ⟨fun _ _ _ => rfl, fun _ _ => rfl⟩
    exact ⟨fun d l r hl hr hd => (same.1 d l r).trans (doubleBinary_becomesAt hs drawn hl hr hd),
      fun d r hl hr => (same.2 d r).trans (doubleBinary_becomesAt hs drawn hl hr (i64_lt hl))⟩

/-- Settles O30: six handlers that read one view and write another, and the two conversions whose NaN is drawn. -/
theorem floatUnaryResult : Obligations.FloatUnaryResult := fun _ _ _ _ _ hs =>
  ⟨fun _ hr =>
    ⟨fun hd => ⟨read32_writeF32_becomes hs hr hd fun v => intBits32 v.toInt, read32_writeF32_becomes hs hr hd (· ^^^ _),
        read32_write32_becomes hs hr hd fun v => f2i32 (asF32 v)⟩,
      fun hd => ⟨read32_write64_becomes hs hr hd (·.signExtend 64),
        read32_write64_becomes hs hr hd fun v => intBits64 v.toInt,
        read32_write64_becomes hs hr hd fun v => f2i64 (asF32 v), fun _ _ => floatToDoubleOp_becomesAt hs hr hd⟩⟩,
    fun x hr =>
    ⟨fun hd => ⟨extractLsb'_eq_ofInt_toInt x ▸ read64_write32_becomes hs hr hd (·.extractLsb' 0 32),
        read64_writeF32_becomes hs hr hd fun v => intBits32 v.toInt,
        read64_write32_becomes hs hr hd fun v => f2i32 (asF64 v), fun _ _ => doubleToFloatOp_becomesAt hs hr hd⟩,
      fun hd => ⟨read64_write64_becomes hs hr hd (· ^^^ _), read64_write64_becomes hs hr hd fun v => intBits64 v.toInt,
        read64_write64_becomes hs hr hd fun v => f2i64 (asF64 v)⟩⟩⟩

end Sys2Proof.Machine
end

section
/-! The exact values of floating-point data (spec/43_arith_float_conv.md R351, R356, R357): signs, alignment to a common
exponent, order and truncation. -/

namespace Sys2Proof.Machine

/-! ### Signs and scales -/

theorem scaled_eq_signedInt (s : Bool) (m : Nat) (e : Int) : scaled s m e = signedInt s m * (2 : ℚ) ^ e := by
  cases s <;> simp [scaled, signedInt]

theorem scaled_not (s : Bool) (m : Nat) (e : Int) : scaled (!s) m e = -scaled s m e := by cases s <;> simp [scaled]

theorem abs_scaled (s : Bool) (m : Nat) (e : Int) : |scaled s m e| = m * (2 : ℚ) ^ e := by
  cases s <;> simp [scaled, abs_mul]

theorem scaled_eq_zero_iff {s : Bool} {m : Nat} {e : Int} : scaled s m e = 0 ↔ m = 0 := by
  rw [← abs_eq_zero, abs_scaled, mul_eq_zero, or_iff_left (by positivity), Nat.cast_eq_zero]

/-- The sign of a value that is not zero. -/
theorem decide_scaled_neg {s : Bool} {m : Nat} {e : Int} (h : scaled s m e ≠ 0) : decide (scaled s m e < 0) = s := by
  have pos : (0 : ℚ) < m * 2 ^ e := abs_scaled s m e ▸ abs_pos.2 h
  cases s
  · simpa [scaled] using pos.le
  · simpa [scaled] using pos

theorem scaled_mul (s t : Bool) (m n : Nat) (e g : Int) :
    scaled s m e * scaled t n g = scaled (s ^^ t) (m * n) (e + g) := by
  rw [scaled, scaled, scaled, zpow_add₀ two_ne_zero]
  cases s <;> cases t <;> simp <;> ring

/-- A value over the smaller of two exponents is the same value. -/
theorem scaled_alignExp (s : Bool) (m : Nat) (e g : Int) : scaled s (alignExp m e g) (min e g) = scaled s m e := by
  have scale : (2 : ℚ) ^ (e - min e g).toNat * 2 ^ min e g = 2 ^ e := by
    rw [← zpow_natCast, ← zpow_add₀ two_ne_zero]; congr 1; omega
  rw [scaled, alignExp, scaled, ← scale]
  push_cast
  ring

theorem scaled_alignExp_right (t : Bool) (n : Nat) (e g : Int) : scaled t (alignExp n g e) (min e g) = scaled t n g := by
  rw [min_comm, scaled_alignExp]

/-- One of two mantissas over the smaller exponent is as it was. -/
theorem alignExp_eq (m n : Nat) (e g : Int) : alignExp m e g = m ∧ min e g = e ∨ alignExp n g e = n ∧ min e g = g := by
  rcases le_total e g with h | h
  · exact .inl ⟨by simp [alignExp, h], min_eq_left h⟩
  · exact .inr ⟨by simp [alignExp, h], min_eq_right h⟩

theorem signedInt_natAbs (z : Int) : signedInt (decide (z < 0)) z.natAbs = z := by
  rw [signedInt]
  split
  next negative => rw [decide_eq_true_iff] at negative; omega
  next nonneg => rw [decide_eq_true_iff] at nonneg; omega

/-! ### Order (R356) -/

/-- Finite values are ordered by their exact values. -/
theorem order_finite (s t : Bool) (m n : Nat) (e g : Int) :
    (FloatValue.finite s m e).order (.finite t n g) = some (compare (scaled s m e) (scaled t n g)) := by
  have mono : StrictMono fun z : Int => (z : ℚ) * 2 ^ min e g :=
    fun x y h => mul_lt_mul_of_pos_right (Int.cast_lt.2 h) (by positivity)
  rw [← scaled_alignExp s m e g, ← scaled_alignExp_right t n e g, scaled_eq_signedInt, scaled_eq_signedInt,
    ← cmp_eq_compare, mono.cmp_map_eq, cmp_eq_compare]
  rfl

theorem order_swap (x y : FloatValue) : y.order x = (x.order y).map Ordering.swap := by
  cases x with
  | nan => cases y <;> rfl
  | inf s => cases y with
    | nan => rfl
    | inf t => cases s <;> cases t <;> rfl
    | finite t n g => cases s <;> rfl
  | finite s m e => cases y with
    | nan => rfl
    | inf t => cases t <;> rfl
    | finite t n g => rw [order_finite, order_finite, ← cmp_eq_compare, ← cmp_eq_compare, Option.map_some, cmp_swap]

theorem order_isSome {x y : FloatValue} (hx : x ≠ .nan) (hy : y ≠ .nan) : ∃ o, x.order y = some o := by
  cases x with
  | nan => exact absurd rfl hx
  | inf s => cases y with
    | nan => exact absurd rfl hy
    | inf t => exact ⟨_, rfl⟩
    | finite t n g => exact ⟨_, rfl⟩
  | finite s m e => cases y with
    | nan => exact absurd rfl hy
    | inf t => exact ⟨_, rfl⟩
    | finite t n g => exact ⟨_, rfl⟩

theorem order_lt_iff {x y : FloatValue} (hx : x ≠ .nan) (hy : y ≠ .nan) :
    x.order y = some .lt ↔ (x = .inf true ∧ y ≠ .inf true) ∨ (y = .inf false ∧ x ≠ .inf false) ∨
      ((∀ b, x ≠ .inf b) ∧ (∀ b, y ≠ .inf b) ∧ x.toRat < y.toRat) := by
  cases x with
  | nan => exact absurd rfl hx
  | inf s => cases y with
    | nan => exact absurd rfl hy
    | inf t => cases s <;> cases t <;> simp [FloatValue.order]
    | finite t n g => cases s <;> simp [FloatValue.order]
  | finite s m e => cases y with
    | nan => exact absurd rfl hy
    | inf t => cases t <;> simp [FloatValue.order]
    | finite t n g => simp [order_finite, compare_lt_iff_lt, FloatValue.toRat]

/-- Settles O29: both widths by one comparison, whose greater is the less of the exchanged values. -/
theorem floatCompareResult : Obligations.FloatCompare := by
  refine ⟨fun s a rest hs => ⟨fun d l r x y hl hr hd => ?_, fun d l r x y hl hr hd => ?_⟩, rfl, rfl, rfl,
    fun x y hx hy => ?_⟩
  · have run := fun bias v => floatCompare_becomes (bias := bias) (v := v) hs hl hr hd
    exact ⟨fun nan => ⟨run _ _ (compareFloat_nan nan _), run _ _ (compareFloat_nan nan _)⟩,
      fun _ ordered => ⟨run _ _ (compareFloat_of_order ordered _), run _ _ (compareFloat_of_order ordered _)⟩⟩
  · have run := fun bias v => doubleCompare_becomes (bias := bias) (v := v) hs hl hr hd
    exact ⟨fun nan => ⟨run _ _ (compareFloat_nan nan _), run _ _ (compareFloat_nan nan _)⟩,
      fun _ ordered => ⟨run _ _ (compareFloat_of_order ordered _), run _ _ (compareFloat_of_order ordered _)⟩⟩
  · obtain ⟨o, ordered⟩ := order_isSome hx hy
    refine ⟨order_lt_iff hx hy, ?_, ?_⟩
    · rw [order_swap x y, ordered]
      cases o <;> simp
    · rw [ordered]
      cases o <;> simp

/-! ### Truncation (R355, R357) -/

theorem truncRat_neg (q : ℚ) : truncRat (-q) = -truncRat q := by
  unfold truncRat
  rcases lt_trichotomy q 0 with h | rfl | h
  · rw [if_pos (by linarith), if_neg (by linarith), Int.floor_neg]
  · simp
  · rw [if_neg (by linarith), if_pos h.le, Int.ceil_neg]

/-- The truncation of a signed quotient of natural numbers. -/
theorem truncRat_signed_div (s : Bool) (k d : Nat) :
    truncRat (signedInt s 1 * ((k : ℚ) / d)) = signedInt s (k / d) := by
  have whole : truncRat ((k : ℚ) / d) = (k / d : ℕ) := by
    rw [truncRat, if_pos (by positivity), Rat.floor_natCast_div_natCast, Int.natCast_div]
  cases s
  · simpa [signedInt] using whole
  · simpa [signedInt, truncRat_neg] using whole

theorem truncScaled_eq (s : Bool) (m : Nat) (e : Int) : truncScaled s m e = truncRat (scaled s m e) := by
  rw [truncScaled, ← truncRat_signed_div]
  congr 1
  rw [scaled, zpow_eq_div]
  cases s <;> simp [signedInt] <;> ring

theorem le_truncRat {z : Int} {q : ℚ} (h : (z : ℚ) ≤ q) : z ≤ truncRat q := by
  unfold truncRat
  split
  · exact Int.le_floor.2 h
  · exact (Int.le_floor.2 h).trans (Int.floor_le_ceil q)

theorem truncRat_le {z : Int} {q : ℚ} (h : q ≤ (z : ℚ)) : truncRat q ≤ z := by
  unfold truncRat
  split
  · exact (Int.floor_le_ceil q).trans (Int.ceil_le.2 h)
  · exact Int.ceil_le.2 h

/-- Settles O31: the finite case is the truncation clipped to the range. -/
theorem floatToIntSaturates : Obligations.FloatToIntSaturates := by
  intro w _
  refine ⟨rfl, rfl, rfl, fun neg m e => ?_⟩
  have positive : (0 : Int) < 2 ^ w := by positivity
  dsimp only [FloatValue.toInt]
  rw [truncScaled_eq]
  refine ⟨fun high => ?_, fun low => ?_, fun above below => ?_⟩
  · have := le_truncRat high
    omega
  · have := truncRat_le low
    omega
  · have := le_truncRat above.le
    have := truncRat_le below.le
    omega

end Sys2Proof.Machine
end

section
/-! The results that are a NaN (spec/43_arith_float_conv.md R352, R355): which operations have one, and that the bits drawn
for one are a NaN. -/

namespace Sys2Proof.Machine

/-! ### Invalid operations -/

section
variable (f : FloatFormat) (x y : FloatValue)

theorem add_eq_none_iff : f.add x y = none ↔ x = .nan ∨ y = .nan ∨ ∃ b, x = .inf b ∧ y = .inf (!b) := by
  cases x with
  | nan => simp [FloatFormat.add]
  | inf s => cases y with
    | inf t => cases s <;> cases t <;> simp [FloatFormat.add]
    | nan | finite => simp [FloatFormat.add]
  | finite s m e => cases y <;> simp [FloatFormat.add]

theorem neg_eq_nan_iff : y.neg = .nan ↔ y = .nan := by cases y <;> simp [FloatValue.neg]

theorem neg_eq_inf_iff (b : Bool) : y.neg = .inf b ↔ y = .inf (!b) := by
  cases y <;> simp [FloatValue.neg, Bool.not_eq_eq_eq_not]

theorem sub_eq_none_iff : f.sub x y = none ↔ x = .nan ∨ y = .nan ∨ ∃ b, x = .inf b ∧ y = .inf b := by
  simp only [FloatFormat.sub, add_eq_none_iff, neg_eq_nan_iff, neg_eq_inf_iff, Bool.not_not]

theorem mul_eq_none_iff : f.mul x y = none ↔ x = .nan ∨ y = .nan ∨ (∃ b c e, x = .inf b ∧ y = .finite c 0 e) ∨
    ∃ b c e, x = .finite c 0 e ∧ y = .inf b := by
  cases x with
  | nan => simp [FloatFormat.mul]
  | inf s => cases y <;> simp [FloatFormat.mul]
  | finite s m e => cases y <;> simp [FloatFormat.mul]

theorem div_eq_none_iff : f.div x y = none ↔ x = .nan ∨ y = .nan ∨ (∃ b c, x = .inf b ∧ y = .inf c) ∨
    ∃ b c e g, x = .finite b 0 e ∧ y = .finite c 0 g := by
  cases x with
  | nan => simp [FloatFormat.div]
  | inf s => cases y <;> simp [FloatFormat.div]
  | finite s m e => cases y with
    | nan | inf => simp [FloatFormat.div]
    | finite t n g =>
      by_cases zero : n = 0 <;> simp [FloatFormat.div, zero]

theorem rem_eq_none_iff : f.rem x y = none ↔ x = .nan ∨ y = .nan ∨ (∃ b, x = .inf b) ∨ ∃ c g, y = .finite c 0 g := by
  cases x with
  | nan => simp [FloatFormat.rem]
  | inf s => simp [FloatFormat.rem]
  | finite s m e => cases y <;> simp [FloatFormat.rem]

end

/-! ### The bits of a NaN -/

/-- A pattern whose exponent field is all ones and whose fraction is not zero is a NaN. -/
theorem unpack_nan (f : FloatFormat) {w : Nat} {x : BitVec w}
    (exponent : x.extractLsb' f.frac f.exp = BitVec.allOnes f.exp) (fraction : x.extractLsb' 0 f.frac ≠ 0#f.frac) :
    f.unpack x.toNat = .nan := by
  have field : ∀ start len, (x.extractLsb' start len).toNat = x.toNat / 2 ^ start % 2 ^ len := fun start len => by
    rw [BitVec.extractLsb'_toNat, Nat.shiftRight_eq_div_pow]
  rw [← BitVec.toNat_inj, field, BitVec.toNat_allOnes] at exponent
  rw [← BitVec.toNat_inj.ne, field, pow_zero, Nat.div_one, BitVec.toNat_ofNat, Nat.zero_mod] at fraction
  rw [FloatFormat.unpack, if_pos exponent, if_neg fraction]

/-- Whatever is drawn is made a NaN: its exponent field is filled, and a zero fraction gets a bit. -/
theorem unpack_madeNaN (f : FloatFormat) {w : Nat} (free quiet filled : BitVec w)
    (quietExp : quiet.extractLsb' f.frac f.exp = BitVec.allOnes f.exp) (quietFrac : quiet.extractLsb' 0 f.frac ≠ 0#f.frac)
    (filledExp : filled.extractLsb' f.frac f.exp = BitVec.allOnes f.exp) (filledFrac : filled.extractLsb' 0 f.frac = 0#f.frac) :
    f.unpack (if free.extractLsb' 0 f.frac = 0#f.frac then free ||| quiet else free ||| filled).toNat = .nan := by
  split
  next zero =>
    exact unpack_nan f (by rw [BitVec.extractLsb'_or, quietExp, BitVec.or_allOnes])
      (by rwa [BitVec.extractLsb'_or, zero, BitVec.zero_or])
  next nonzero =>
    exact unpack_nan f (by rw [BitVec.extractLsb'_or, filledExp, BitVec.or_allOnes])
      (by rwa [BitVec.extractLsb'_or, filledFrac, BitVec.or_zero])

theorem asF32_nan32 (free : Word32) : asF32 (nan32 free) = .nan :=
  unpack_madeNaN binary32 free 0x7fc00000#32 0x7f800000#32 (by decide) (by decide) (by decide) (by decide)
theorem asF64_nan64 (free : Word64) : asF64 (nan64 free) = .nan :=
  unpack_madeNaN binary64 free 0x7ff8000000000000#64 0x7ff0000000000000#64 (by decide) (by decide) (by decide) (by decide)

/-- Settles O28: five operations with their invalid operands, and the two patterns that are drawn. -/
theorem naNProduced : Obligations.NaNProduced :=
  ⟨fun f x y => ⟨add_eq_none_iff f x y, sub_eq_none_iff f x y, mul_eq_none_iff f x y, div_eq_none_iff f x y,
      rem_eq_none_iff f x y⟩,
    fun _ => ⟨asF32_nan32 _, asF64_nan64 _⟩⟩

end Sys2Proof.Machine
end

section
/-! Patterns and rounding (spec/43_arith_float_conv.md R350, R351): a finite pattern is its sign and its point of the grid,
what lies on the grid rounds to itself, and each operation is an exact value rounded. -/

namespace Sys2Proof.Machine

/-! ### Patterns -/

section
variable (f : FloatFormat)

theorem infBits_add_le : f.infBits + 2 ^ f.frac = 2 ^ (f.frac + f.exp) := by
  have : 1 ≤ 2 ^ f.exp := Nat.one_le_two_pow
  rw [FloatFormat.infBits, Nat.sub_mul, one_mul, pow_add, mul_comm (2 ^ f.exp), Nat.sub_add_cancel]
  exact Nat.le_mul_of_pos_right _ this

theorem infBits_lt : f.infBits < 2 ^ (f.frac + f.exp) := by
  have := infBits_add_le f
  have : 0 < 2 ^ f.frac := by positivity
  omega

theorem signed_lt {neg : Bool} {mag : Nat} (h : mag ≤ f.infBits) : f.signed neg mag < 2 ^ (f.frac + f.exp + 1) := by
  have := infBits_lt f
  rw [FloatFormat.signed, pow_succ]
  split <;> omega

/-- The sign bit changes the sign of the value and nothing else. -/
theorem unpack_signed_true {mag : Nat} (h : mag < 2 ^ (f.frac + f.exp)) :
    f.unpack (f.signed true mag) = (f.unpack mag).neg := by
  have fraction : (2 ^ (f.frac + f.exp) + mag) % 2 ^ f.frac = mag % 2 ^ f.frac := by
    rw [pow_add, Nat.mul_add_mod]
  have exponent : (2 ^ (f.frac + f.exp) + mag) / 2 ^ f.frac % 2 ^ f.exp = mag / 2 ^ f.frac % 2 ^ f.exp := by
    rw [pow_add, Nat.mul_add_div (by positivity), Nat.add_mod_left]
  have sign : (2 ^ (f.frac + f.exp) + mag) / 2 ^ (f.frac + f.exp) = 1 := by
    rw [Nat.add_div_left _ (by positivity), Nat.div_eq_of_lt h]
  have unsigned : mag / 2 ^ (f.frac + f.exp) = 0 := Nat.div_eq_of_lt h
  simp only [FloatFormat.unpack, FloatFormat.signed, if_true, fraction, exponent, sign, unsigned]
  split
  · split <;> rfl
  · split <;> rfl

/-- Every finite magnitude is a mantissa below 2 × 2^frac over an exponent not below the subnormals'. -/
theorem unpack_of_lt_infBits {mag : Nat} (h : mag < f.infBits) :
    ∃ m e, (∀ neg, f.unpack (f.signed neg mag) = .finite neg m e) ∧ (m : ℚ) * 2 ^ e = f.grid mag ∧
      m < 2 * 2 ^ f.frac ∧ f.minExp ≤ e := by
  have value := unpack_toRat f h
  have hlt := h.trans (infBits_lt f)
  have hB : 0 < 2 ^ f.frac := by positivity
  have hfr := Nat.mod_lt mag hB
  have hsign : mag / 2 ^ (f.frac + f.exp) = 0 := Nat.div_eq_of_lt hlt
  have hex : mag / 2 ^ f.frac % 2 ^ f.exp ≠ 2 ^ f.exp - 1 := by
    have : mag / 2 ^ f.frac < 2 ^ f.exp - 1 := (Nat.div_lt_iff_lt_mul hB).2 h
    rw [Nat.mod_eq_of_lt (this.trans_le (Nat.sub_le _ _))]
    exact this.ne
  obtain ⟨m, e, finite, hm, he⟩ : ∃ m e, f.unpack mag = .finite false m e ∧ m < 2 * 2 ^ f.frac ∧ f.minExp ≤ e := by
    rw [FloatFormat.unpack, if_neg hex, hsign]
    split
    · exact ⟨_, _, rfl, by omega, le_rfl⟩
    · exact ⟨_, _, rfl, by omega, by omega⟩
  refine ⟨m, e, fun neg => ?_, ?_, hm, he⟩
  · cases neg
    · exact finite
    · rw [unpack_signed_true f hlt, finite]; rfl
  · rw [← value, finite]
    simp [FloatValue.toRat, scaled]

/-- Every finite pattern is a sign and a magnitude below the infinity's. -/
theorem exists_signed_of_unpack {n m : Nat} {s : Bool} {e : Int} (hn : n < 2 ^ (f.frac + f.exp + 1))
    (h : f.unpack n = .finite s m e) : ∃ mag < f.infBits, n = f.signed s mag := by
  have hB : 0 < 2 ^ f.frac := by positivity
  have bit : n / 2 ^ (f.frac + f.exp) < 2 := by rwa [Nat.div_lt_iff_lt_mul (by positivity), ← pow_succ']
  have parts := Nat.div_add_mod n (2 ^ (f.frac + f.exp))
  have sign : s = decide (n / 2 ^ (f.frac + f.exp) = 1) := by
    rw [FloatFormat.unpack, Nat.mod_eq_of_lt bit] at h
    split at h
    · split at h <;> simp at h
    · split at h <;> exact (FloatValue.finite.inj h).1.symm
  have exponent : n % 2 ^ (f.frac + f.exp) / 2 ^ f.frac ≠ 2 ^ f.exp - 1 := by
    rw [pow_add, Nat.mod_mul_right_div_self]
    intro full
    rw [FloatFormat.unpack, if_pos full] at h
    split at h <;> simp at h
  refine ⟨n % 2 ^ (f.frac + f.exp), ?_, ?_⟩
  · have : n % 2 ^ (f.frac + f.exp) / 2 ^ f.frac < 2 ^ f.exp := by
      rw [pow_add, Nat.mod_mul_right_div_self]
      exact Nat.mod_lt _ (by positivity)
    exact (Nat.div_lt_iff_lt_mul hB).1 ((Nat.le_sub_one_of_lt this).lt_of_ne exponent)
  · subst sign
    obtain zero | one : n / 2 ^ (f.frac + f.exp) = 0 ∨ n / 2 ^ (f.frac + f.exp) = 1 :=
      Nat.le_one_iff_eq_zero_or_eq_one.1 (Nat.lt_succ_iff.1 bit)
    · rw [zero] at parts ⊢
      simpa [FloatFormat.signed] using parts.symm
    · rw [one] at parts ⊢
      simpa [FloatFormat.signed] using parts.symm

end

/-! ### Values on the grid -/

section
variable (f : FloatFormat)

/-- A value that fits the mantissa, at an exponent that is not below the subnormals', lies on the grid. -/
theorem exists_grid_eq {k : Nat} {e : Int} (hk : k < 2 * 2 ^ f.frac) (he : f.minExp ≤ e) :
    ∃ mag, f.grid mag = k * (2 : ℚ) ^ e := by
  obtain ⟨j, rfl⟩ : ∃ j : Nat, e = f.minExp + j := ⟨(e - f.minExp).toNat, by omega⟩
  clear he
  induction j generalizing k with
  | zero => exact ⟨0 * 2 ^ f.frac + k, grid_steps f hk.le (.inl rfl)⟩
  | succ j ih =>
    rcases le_or_gt (2 ^ f.frac) k with normal | small
    · exact ⟨(j + 1) * 2 ^ f.frac + k, grid_steps f hk.le (.inr normal)⟩
    · obtain ⟨mag, value⟩ := ih (k := 2 * k) (by omega)
      refine ⟨mag, value.trans ?_⟩
      push_cast
      rw [← add_assoc, zpow_add_one₀ two_ne_zero]
      ring

/-- The infinity's point of the grid: the first power of two past the finite values. -/
theorem grid_infBits (he : 1 ≤ f.exp) : f.grid f.infBits = 2 ^ 2 ^ (f.exp - 1) := by
  obtain ⟨k, hk⟩ : ∃ k, f.exp = k + 1 := ⟨f.exp - 1, by omega⟩
  have hpow : 2 ^ f.exp = 2 * 2 ^ k := by rw [hk, pow_succ, mul_comm]
  have one : 1 ≤ 2 ^ k := Nat.one_le_two_pow
  have steps : f.infBits = (2 * 2 ^ k - 2) * 2 ^ f.frac + 2 ^ f.frac := by
    rw [FloatFormat.infBits, hpow, ← Nat.succ_mul]; congr 1; omega
  rw [steps, grid_steps f (by omega) (.inr le_rfl), hk, Nat.add_sub_cancel, FloatFormat.minExp, hk, Nat.add_sub_cancel,
    Nat.cast_pow, Nat.cast_ofNat, ← zpow_natCast, ← zpow_natCast, ← zpow_add₀ two_ne_zero]
  congr 1
  push_cast [Nat.cast_sub (show 2 ≤ 2 * 2 ^ k by omega)]
  ring

variable {f}

/-- What lies on the grid below the infinity rounds to itself. -/
theorem round_of_grid_eq (hf : 1 ≤ f.frac) {n d mag : Nat} {e : Int} (hd : 0 < d) (inside : mag < f.infBits)
    (value : (n : ℚ) / d * 2 ^ e = f.grid mag) : f.round n d e = mag := by
  have grid_zero : f.grid 0 = 0 := by simp [FloatFormat.grid]
  rcases n.eq_zero_or_pos with rfl | hn
  · have : f.grid mag = f.grid 0 := by rw [← value, grid_zero]; simp
    rw [FloatFormat.round, if_pos rfl, (grid_strictMono f).injective this]
  · obtain ⟨nearest, -⟩ := roundGrid_nearest f e hf hn hd mag
    rw [value, sub_self, abs_zero, abs_nonpos_iff, sub_eq_zero] at nearest
    rw [round_eq_min f d e hn, (grid_strictMono f).injective nearest, min_eq_right inside.le]

/-- Packing the parts of a finite pattern gives that pattern. -/
theorem pack_of_unpack (hf : 1 ≤ f.frac) {n m : Nat} {s : Bool} {e : Int} (hn : n < 2 ^ (f.frac + f.exp + 1))
    (h : f.unpack n = .finite s m e) : f.pack s m e = n := by
  obtain ⟨mag, inside, rfl⟩ := exists_signed_of_unpack f hn h
  obtain ⟨m', e', unpacked, value, -⟩ := unpack_of_lt_infBits f inside
  obtain ⟨-, rfl, rfl⟩ := FloatValue.finite.inj ((unpacked s).symm.trans h)
  rw [FloatFormat.pack, round_of_grid_eq hf one_pos inside (by rw [← value, Nat.cast_one, div_one])]

/-- The mantissa and the exponent of a finite pattern, and that its magnitude is below the infinity's. -/
theorem bounds_of_unpack {n m : Nat} {s : Bool} {e : Int} (hn : n < 2 ^ (f.frac + f.exp + 1))
    (h : f.unpack n = .finite s m e) : m < 2 * 2 ^ f.frac ∧ f.minExp ≤ e ∧ (m : ℚ) * 2 ^ e < f.grid f.infBits := by
  obtain ⟨mag, inside, rfl⟩ := exists_signed_of_unpack f hn h
  obtain ⟨m', e', unpacked, value, hm, he⟩ := unpack_of_lt_infBits f inside
  obtain ⟨-, rfl, rfl⟩ := FloatValue.finite.inj ((unpacked s).symm.trans h)
  exact ⟨hm, he, value ▸ grid_strictMono f inside⟩

/-- A value that fits the format is packed exactly (R355, R358). -/
theorem unpack_pack (hf : 1 ≤ f.frac) (s : Bool) {m : Nat} {e : Int} (hm : m < 2 * 2 ^ f.frac) (he : f.minExp ≤ e)
    (inside : (m : ℚ) * 2 ^ e < f.grid f.infBits) : ∃ k h, f.unpack (f.pack s m e) = .finite s k h ∧
      scaled s k h = scaled s m e := by
  obtain ⟨mag, value⟩ := exists_grid_eq f hm he
  have hmag : mag < f.infBits := (grid_strictMono f).lt_iff_lt.1 (value ▸ inside)
  obtain ⟨k, h, unpacked, same, -⟩ := unpack_of_lt_infBits f hmag
  refine ⟨k, h, ?_, ?_⟩
  · rw [FloatFormat.pack, round_of_grid_eq hf one_pos hmag (by rw [value, Nat.cast_one, div_one])]
    exact unpacked s
  · rw [scaled, scaled, mul_assoc, mul_assoc, same, value]

theorem pack_lt (f : FloatFormat) (s : Bool) (m : Nat) (e : Int) : f.pack s m e < 2 ^ (f.frac + f.exp + 1) := by
  refine signed_lt f ?_
  rw [FloatFormat.round]
  split
  · exact Nat.zero_le _
  · exact min_le_left _ _

end

/-! ### Exact values rounded (R351) -/

/-- Bits that are an exact value rounded, with its sign. -/
def FloatFormat.Rounded (f : FloatFormat) (q : ℚ) (bits : Nat) : Prop :=
  ∃ (k d : Nat) (h : Int), 0 < d ∧ (k : ℚ) / d * (2 : ℚ) ^ h = |q| ∧ bits = f.signed (decide (q < 0)) (f.round k d h)

section
variable (f : FloatFormat) {s t : Bool} {m n : Nat} {e g : Int}

theorem rounded_pack (h : scaled s m e ≠ 0) : f.Rounded (scaled s m e) (f.pack s m e) :=
  ⟨m, 1, e, one_pos, by rw [abs_scaled, Nat.cast_one, div_one], by rw [decide_scaled_neg h, FloatFormat.pack]⟩

/-- A zero is packed with its sign. -/
theorem pack_zero (h : scaled s m e = 0) : f.pack s m e = f.signed s 0 := by
  rw [FloatFormat.pack, scaled_eq_zero_iff.1 h, FloatFormat.round, if_pos rfl]

theorem packInt_of_ne {z : Int} (h : z ≠ 0) (e : Int) (neg : Bool) :
    f.packInt z e neg = f.pack (decide (z < 0)) z.natAbs e := if_neg h

theorem scaled_natAbs (z : Int) (e : Int) : scaled (decide (z < 0)) z.natAbs e = z * (2 : ℚ) ^ e := by
  rw [scaled_eq_signedInt, signedInt_natAbs]

theorem rounded_packInt {z : Int} (h : (z : ℚ) * 2 ^ e ≠ 0) (neg : Bool) : f.Rounded (z * 2 ^ e) (f.packInt z e neg) := by
  have nonzero : z ≠ 0 := by rintro rfl; simp at h
  rw [packInt_of_ne f nonzero, ← scaled_natAbs]
  exact rounded_pack f (by rwa [scaled_natAbs])

theorem packInt_zero {z : Int} (h : (z : ℚ) * 2 ^ e = 0) (neg : Bool) : f.packInt z e neg = f.signed neg 0 :=
  if_pos (Int.cast_eq_zero.1 ((mul_eq_zero.1 h).resolve_right (by positivity)))

/-! ### Sums and differences -/

/-- Both terms over the smaller exponent. -/
theorem scaled_add (s t : Bool) (m n : Nat) (e g : Int) : scaled s m e + scaled t n g =
    (signedInt s (alignExp m e g) + signedInt t (alignExp n g e) : Int) * (2 : ℚ) ^ min e g := by
  rw [← scaled_alignExp s m e g, ← scaled_alignExp_right t n e g, scaled_eq_signedInt, scaled_eq_signedInt, ← add_mul,
    Int.cast_add]

theorem add_rounded (h : scaled s m e + scaled t n g ≠ 0) :
    ∃ b, f.add (.finite s m e) (.finite t n g) = some b ∧ f.Rounded (scaled s m e + scaled t n g) b := by
  rw [scaled_add] at h ⊢
  exact ⟨_, rfl, rounded_packInt f h _⟩

theorem add_zero_sum (h : scaled s m e + scaled t n g = 0) :
    f.add (.finite s m e) (.finite t n g) = some (f.signed (s && t) 0) := by
  rw [scaled_add] at h
  exact congrArg some (packInt_zero f h _)

theorem sub_rounded (h : scaled s m e - scaled t n g ≠ 0) :
    ∃ b, f.sub (.finite s m e) (.finite t n g) = some b ∧ f.Rounded (scaled s m e - scaled t n g) b := by
  rw [sub_eq_add_neg, ← scaled_not] at h ⊢
  exact add_rounded f h

theorem sub_zero_difference (h : scaled s m e - scaled t n g = 0) :
    f.sub (.finite s m e) (.finite t n g) = some (f.signed (s && !t) 0) := by
  rw [sub_eq_add_neg, ← scaled_not] at h
  exact add_zero_sum f h

/-! ### Products and quotients -/

theorem mul_rounded (h : scaled s m e * scaled t n g ≠ 0) :
    ∃ b, f.mul (.finite s m e) (.finite t n g) = some b ∧ f.Rounded (scaled s m e * scaled t n g) b := by
  rw [scaled_mul] at h ⊢
  exact ⟨_, rfl, rounded_pack f h⟩

theorem mul_zero_product (h : scaled s m e * scaled t n g = 0) :
    f.mul (.finite s m e) (.finite t n g) = some (f.signed (s ^^ t) 0) := by
  rw [scaled_mul] at h
  exact congrArg some (pack_zero f h)

theorem div_of_ne (hn : n ≠ 0) :
    f.div (.finite s m e) (.finite t n g) = some (f.signed (s ^^ t) (f.round m n (e - g))) := if_neg hn

theorem decide_div_neg (hx : scaled s m e ≠ 0) (hy : scaled t n g ≠ 0) :
    decide (scaled s m e / scaled t n g < 0) = (s ^^ t) := by
  have product : scaled (s ^^ t) (m * n) (e + g) ≠ 0 := scaled_mul s t m n e g ▸ mul_ne_zero hx hy
  rw [← decide_scaled_neg product, decide_eq_decide, ← scaled_mul, div_neg_iff, mul_neg_iff]

theorem div_rounded (hx : scaled s m e ≠ 0) (hy : scaled t n g ≠ 0) :
    ∃ b, f.div (.finite s m e) (.finite t n g) = some b ∧ f.Rounded (scaled s m e / scaled t n g) b := by
  have hn : n ≠ 0 := fun zero => hy (scaled_eq_zero_iff.2 zero)
  refine ⟨_, div_of_ne f hn, m, n, e - g, Nat.pos_of_ne_zero hn, ?_, by rw [decide_div_neg hx hy]⟩
  rw [abs_div, abs_scaled, abs_scaled, zpow_sub₀ two_ne_zero, div_mul_div_comm]

theorem div_zero_dividend (hx : scaled s m e = 0) (hy : scaled t n g ≠ 0) :
    f.div (.finite s m e) (.finite t n g) = some (f.signed (s ^^ t) 0) := by
  rw [div_of_ne f fun zero => hy (scaled_eq_zero_iff.2 zero), scaled_eq_zero_iff.1 hx, FloatFormat.round, if_pos rfl]

theorem div_zero_divisor (hx : scaled s m e ≠ 0) (hy : scaled t n g = 0) :
    f.div (.finite s m e) (.finite t n g) = some (f.signed (s ^^ t) f.infBits) :=
  (if_pos (scaled_eq_zero_iff.1 hy)).trans (if_neg fun zero => hx (scaled_eq_zero_iff.2 zero))

/-! ### Remainders (R355) -/

/-- The truncating remainder of two values is that of their mantissas over the smaller exponent. -/
theorem remainder_eq_scaled (s t : Bool) (m n : Nat) (e g : Int) :
    scaled s m e - scaled t n g * truncRat (scaled s m e / scaled t n g) =
      scaled s (alignExp m e g % alignExp n g e) (min e g) := by
  rw [← scaled_alignExp s m e g, ← scaled_alignExp_right t n e g]
  generalize alignExp m e g = x
  generalize alignExp n g e = y
  generalize min e g = i
  have quotient : scaled s x i / scaled t y i = signedInt (s ^^ t) 1 * ((x : ℚ) / y) := by
    rw [scaled, scaled, mul_div_mul_right _ _ (by positivity)]
    cases s <;> cases t <;> simp [signedInt] <;> ring
  have division : (x : ℚ) = y * (x / y : ℕ) + (x % y : ℕ) := by exact_mod_cast (Nat.div_add_mod x y).symm
  rw [quotient, truncRat_signed_div, scaled, scaled, scaled, division]
  generalize x / y = q
  generalize x % y = r
  cases s <;> cases t <;> simp [signedInt] <;> ring

theorem rem_of_ne (hn : n ≠ 0) : f.rem (.finite s m e) (.finite t n g) =
    some (f.pack s (alignExp m e g % alignExp n g e) (min e g)) := if_neg hn

theorem rem_rounded (hy : scaled t n g ≠ 0)
    (h : scaled s m e - scaled t n g * truncRat (scaled s m e / scaled t n g) ≠ 0) :
    ∃ b, f.rem (.finite s m e) (.finite t n g) = some b ∧
      f.Rounded (scaled s m e - scaled t n g * truncRat (scaled s m e / scaled t n g)) b := by
  rw [remainder_eq_scaled] at h ⊢
  exact ⟨_, rem_of_ne f fun zero => hy (scaled_eq_zero_iff.2 zero), rounded_pack f h⟩

theorem rem_zero_remainder (hy : scaled t n g ≠ 0)
    (h : scaled s m e - scaled t n g * truncRat (scaled s m e / scaled t n g) = 0) :
    f.rem (.finite s m e) (.finite t n g) = some (f.signed s 0) := by
  rw [remainder_eq_scaled] at h
  rw [rem_of_ne f fun zero => hy (scaled_eq_zero_iff.2 zero), pack_zero f h]

/-- The remainder of two values of a format fits the format. -/
theorem rem_exact (hf : 1 ≤ f.frac) {x y : Nat} (hx : x < 2 ^ (f.frac + f.exp + 1)) (hy : y < 2 ^ (f.frac + f.exp + 1))
    (xs : f.unpack x = .finite s m e) (ys : f.unpack y = .finite t n g) (nonzero : scaled t n g ≠ 0) :
    ∃ c < 2 ^ (f.frac + f.exp + 1), f.rem (.finite s m e) (.finite t n g) = some c ∧
      ∃ k h, f.unpack c = .finite s k h ∧
        scaled s k h = scaled s m e - scaled t n g * truncRat (scaled s m e / scaled t n g) := by
  obtain ⟨hm, he, inside⟩ := bounds_of_unpack hx xs
  obtain ⟨hn, hg, -⟩ := bounds_of_unpack hy ys
  have hn0 : n ≠ 0 := fun zero => nonzero (scaled_eq_zero_iff.2 zero)
  have aligned := alignExp_eq m n e g
  have small : alignExp m e g % alignExp n g e < 2 * 2 ^ f.frac := by
    rcases aligned with ⟨same, -⟩ | ⟨same, -⟩
    · rw [same]; exact (Nat.mod_le _ _).trans_lt hm
    · rw [same]; exact (Nat.mod_lt _ (Nat.pos_of_ne_zero hn0)).trans hn
  have below : ((alignExp m e g % alignExp n g e : Nat) : ℚ) * 2 ^ min e g < f.grid f.infBits :=
    calc ((alignExp m e g % alignExp n g e : Nat) : ℚ) * 2 ^ min e g
        ≤ alignExp m e g * 2 ^ min e g := by gcongr; exact Nat.mod_le _ _
      _ = m * 2 ^ e := by rw [← abs_scaled s, scaled_alignExp, abs_scaled]
      _ < f.grid f.infBits := inside
  rw [remainder_eq_scaled]
  exact ⟨_, pack_lt f _ _ _, rem_of_ne f hn0, unpack_pack hf s small (le_min he hg) below⟩

end

end Sys2Proof.Machine
end

section
/-! The results of the floating-point operations and conversions at both widths (spec/43_arith_float_conv.md R351 to R358):
rounded where the exact value does not fit the format, exact where it does. -/

namespace Sys2Proof.Machine

/-! ### Remainders of patterns (R355) -/

section
variable {f : FloatFormat} (hf : 1 ≤ f.frac) {w : Nat} (hw : w = f.frac + f.exp + 1)
include hf hw

/-- A remainder by an infinity is the dividend's own pattern. -/
theorem rem_inf_word (x : BitVec w) {s : Bool} {m : Nat} {e : Int} (hx : f.unpack x.toNat = .finite s m e) (t : Bool) :
    f.rem (f.unpack x.toNat) (.inf t) = some x.toNat := by
  subst hw
  rw [hx]
  exact congrArg some (pack_of_unpack hf x.isLt hx)

/-- A remainder of two patterns is a pattern of the exact value. -/
theorem rem_word (x y : BitVec w) {s t : Bool} {m n : Nat} {e g : Int} (hx : f.unpack x.toNat = .finite s m e)
    (hy : f.unpack y.toNat = .finite t n g) (nonzero : (f.unpack y.toNat).toRat ≠ 0) :
    ∃ c : BitVec w, f.rem (f.unpack x.toNat) (f.unpack y.toNat) = some c.toNat ∧
      (∃ u k h, f.unpack c.toNat = .finite u k h) ∧ (f.unpack c.toNat).toRat = (f.unpack x.toNat).toRat -
        (f.unpack y.toNat).toRat * truncRat ((f.unpack x.toNat).toRat / (f.unpack y.toNat).toRat) := by
  subst hw
  rw [hy] at nonzero
  rw [hx, hy]
  obtain ⟨c, small, result, k, h, finite, value⟩ := rem_exact f hf x.isLt y.isLt hx hy nonzero
  refine ⟨BitVec.ofNat _ c, ?_⟩
  rw [BitVec.toNat_ofNat, Nat.mod_eq_of_lt small, finite]
  exact ⟨result, ⟨_, _, _, rfl⟩, value⟩

end

/-- Settles O27: each finite case is one exact value rounded, each infinite one is what the operation's own case says. -/
theorem exactThenRounded : Obligations.ExactThenRounded := by
  refine ⟨fun f _ s t m n e g => ⟨add_rounded f, add_zero_sum f, sub_rounded f, sub_zero_difference f, mul_rounded f,
      mul_zero_product f, div_rounded f, div_zero_dividend f, div_zero_divisor f, rem_rounded f, rem_zero_remainder f,
      rfl, rfl, if_pos rfl, rfl, rfl, if_pos (Bool.not_not s).symm, rfl, ?_, ?_, rfl, rfl⟩,
    fun x s m e t hx => rem_inf_word (f := binary32) (by decide) rfl x hx t,
    fun x s m e t hx => rem_inf_word (f := binary64) (by decide) rfl x hx t,
    fun x y s t m n e g hx hy => rem_word (f := binary32) (by decide) rfl x y hx hy,
    fun x y s t m n e g hx hy => rem_word (f := binary64) (by decide) rfl x y hx hy⟩
  · exact fun nonzero => if_neg fun zero => nonzero (scaled_eq_zero_iff.2 zero)
  · exact fun nonzero => if_neg fun zero => nonzero (scaled_eq_zero_iff.2 zero)

/-! ### Conversions (R358, R371 to R375, R381) -/

/-- An integer is packed as its sign and magnitude, 0 as the positive zero. -/
theorem packInt_false (f : FloatFormat) (z e : Int) : f.packInt z e false = f.pack (decide (z < 0)) z.natAbs e := by
  rcases eq_or_ne z 0 with rfl | nonzero
  · exact (if_pos rfl).trans (pack_zero f (s := false) (scaled_eq_zero_iff.2 rfl)).symm
  · exact packInt_of_ne f nonzero e false

theorem intBits32_toNat (z : Int) : (intBits32 z).toNat = binary32.packInt z 0 false := by
  rw [packInt_false, intBits32, packInt_false, BitVec.toNat_ofNat]
  exact Nat.mod_eq_of_lt (pack_lt binary32 _ _ _)
theorem intBits64_toNat (z : Int) : (intBits64 z).toNat = binary64.packInt z 0 false := by
  rw [packInt_false, intBits64, packInt_false, BitVec.toNat_ofNat]
  exact Nat.mod_eq_of_lt (pack_lt binary64 _ _ _)

theorem rounded_int (f : FloatFormat) {z : Int} (nonzero : z ≠ 0) : f.Rounded z (f.packInt z 0 false) := by
  have := rounded_packInt f (z := z) (e := 0) (by simpa using nonzero) false
  rwa [zpow_zero, mul_one] at this

theorem convert_eq_none_iff (f : FloatFormat) (v : FloatValue) : f.convert v = none ↔ v = .nan := by
  cases v <;> simp [FloatFormat.convert]

/-- A mantissa of at most 53 bits over an exponent of binary64's, of a value below 2^1024, is packed exactly in binary64. -/
theorem pack64_exact (s : Bool) {m : Nat} {e : Int} (hm : m < 2 ^ 53) (he : -1074 ≤ e)
    (inside : (m : ℚ) * 2 ^ e < 2 ^ 1024) :
    (asF64 (BitVec.ofNat 64 (binary64.pack s m e))).toRat = scaled s m e := by
  have top : binary64.grid binary64.infBits = 2 ^ 1024 := grid_infBits binary64 (by decide)
  obtain ⟨k, h, finite, value⟩ := unpack_pack (f := binary64) (by decide) s (m := m) (e := e) hm he (by rwa [top])
  have word : (BitVec.ofNat 64 (binary64.pack s m e)).toNat = binary64.pack s m e :=
    Nat.mod_eq_of_lt (pack_lt binary64 s m e)
  rw [asF64, word, finite]
  exact value

/-- int-to-double is exact (R372). -/
theorem intBits64_exact (x : Word32) : (asF64 (intBits64 x.toInt)).toRat = (x.toInt : ℚ) := by
  have small : x.toInt.natAbs ≤ 2 ^ 31 := by
    have := x.le_toInt
    have := x.toInt_lt
    omega
  have inside : (x.toInt.natAbs : ℚ) * 2 ^ (0 : ℤ) < 2 ^ 1024 :=
    calc (x.toInt.natAbs : ℚ) * 2 ^ (0 : ℤ) = x.toInt.natAbs := by rw [zpow_zero, mul_one]
      _ ≤ 2 ^ 31 := by exact_mod_cast small
      _ < 2 ^ 1024 := pow_lt_pow_right₀ one_lt_two (by decide)
  rw [intBits64, packInt_false, pack64_exact _ (by omega) (by decide) inside, scaled_natAbs, zpow_zero, mul_one]

/-- float-to-double is exact (R378). -/
theorem convert64_exact {x : Word32} {s : Bool} {m : Nat} {e : Int} (hx : asF32 x = .finite s m e) :
    ∃ b, binary64.convert (asF32 x) = some b ∧ (asF64 (BitVec.ofNat 64 b)).toRat = (asF32 x).toRat := by
  obtain ⟨hm, he, inside⟩ := bounds_of_unpack (f := binary32) x.isLt hx
  have top : binary32.grid binary32.infBits = 2 ^ 128 := grid_infBits binary32 (by decide)
  rw [hx]
  refine ⟨_, rfl, pack64_exact s (hm.trans (by decide)) (le_trans (by decide) he) (inside.trans ?_)⟩
  rw [top]
  exact pow_lt_pow_right₀ one_lt_two (by decide)

/-- Settles O32: a conversion is an exact value packed, and binary64 holds every int and every float. -/
theorem conversionsRounded : Obligations.ConversionsRounded := by
  refine ⟨fun f _ => ⟨fun z nonzero => ⟨?_, ?_⟩, convert_eq_none_iff f, fun _ => rfl, fun neg m e => ⟨?_, ?_⟩⟩,
    rfl, rfl, intBits64_exact, fun x s m e hx => convert64_exact hx⟩
  · rintro rfl
    rw [intBits32_toNat]
    exact rounded_int binary32 nonzero
  · rintro rfl
    rw [intBits64_toNat]
    exact rounded_int binary64 nonzero
  · exact fun zero => congrArg some (pack_zero f zero)
  · exact fun nonzero => ⟨_, rfl, rounded_pack f nonzero⟩

end Sys2Proof.Machine
end

section
/-! Control flow but for the switches (spec/44_control_flow.md R424 to R457): the conditional branches, throw, the returns
and the monitors, each handler for operands that read. -/

namespace Sys2Proof.Machine

/-! ### Conditional branches (R424 to R436) -/

section
variable {s : State} {a : Activation} {rest : List Activation}

/-- Handlers that run alike on the top activation lead to the same next state. -/
theorem runTop_congr {h k : Handler Unit} (hs : s.stack = a :: rest)
    (alike : h (Ctx.enter s a rest) = k (Ctx.enter s a rest)) : runTop h s = runTop k s := by
  simp only [runTop, hs, alike]

/-- What a conditional branch of two units does (R424): past the instruction, to the target, or F3. -/
def Branches (s : State) (a : Activation) (rest : List Activation) (off : Int) (h : Handler Unit) (taken : Prop) : Prop :=
  (¬taken → runTop h s = becomes s rest { a with pc := a.pc + 2 }) ∧
  (taken → 0 ≤ (a.pc : Int) + off → (a.pc : Int) + off ≤ a.method.len →
    runTop h s = becomes s rest (a.atPc (a.pc + off))) ∧
  (taken → (a.pc : Int) + off < 0 ∨ (a.method.len : Int) < a.pc + off → runTop h s = faults s (.pcRange (a.pc + off)))

/-- A handler that comes down to a test branches on it. -/
theorem branches_of_test {h : Handler Unit} {off : Int} {test : Bool} {taken : Prop} (hs : s.stack = a :: rest)
    (runs : h (Ctx.enter s a rest) = (if test then jump off else advance 2 : Handler Unit) (Ctx.enter s a rest))
    (decides : test = true ↔ taken) : Branches s a rest off h taken := by
  have goes (yes : taken) : runTop h s = runTop (jump off) s :=
    runTop_congr hs (runs.trans (congrFun (if_pos (decides.2 yes)) _))
  refine ⟨fun no => ?_, fun yes low high => (goes yes).trans (jump_becomes hs ⟨low, high⟩),
    fun yes outside => (goes yes).trans (jump_faults hs outside)⟩
  exact runTop_becomes hs (runs.trans (congrFun (if_neg fun yes => no (decides.1 yes)) _))

theorem branchIf_branches {l r : Nat} {x y : Word32} {off : BitVec 16} (hs : s.stack = a :: rest)
    (hl : a.i32 l = .ok x) (hr : a.i32 r = .ok y) (k : Cond) {taken : Prop}
    (decides : k.holds x.toInt y.toInt = true ↔ taken) : Branches s a rest off.toInt (branchIf k l r off) taken :=
  branches_of_test hs ((handler_bind_ok (readI32_ok hl)).trans (handler_bind_ok (readI32_ok hr))) decides

theorem branchIfZero_branches {l : Nat} {x : Word32} {off : BitVec 16} (hs : s.stack = a :: rest)
    (hl : a.i32 l = .ok x) (k : Cond) {taken : Prop} (decides : k.holds x.toInt 0 = true ↔ taken) :
    Branches s a rest off.toInt (branchIfZero k l off) taken :=
  branches_of_test hs (handler_bind_ok (readI32_ok hl)) decides

end

/-- Settles O34: two handlers, each with the six conditions. -/
theorem conditionalBranches : Obligations.ConditionalBranches := fun _ _ _ _ _ _ hs =>
  ⟨fun _ _ hl hr =>
      have on := branchIf_branches hs hl hr
      ⟨on .eq decide_eq_true_iff, on .ne decide_eq_true_iff, on .lt decide_eq_true_iff, on .ge decide_eq_true_iff,
        on .gt decide_eq_true_iff, on .le decide_eq_true_iff⟩,
    fun _ hl =>
      have on := branchIfZero_branches hs hl
      ⟨on .eq decide_eq_true_iff, on .ne decide_eq_true_iff, on .lt decide_eq_true_iff, on .ge decide_eq_true_iff,
        on .gt decide_eq_true_iff, on .le decide_eq_true_iff⟩⟩

/-! ### Throw (R441) -/

section
variable {s : State} {a : Activation} {rest : List Activation} {r : Nat}

theorem throwRef_thrown {h : Handle} (hs : s.stack = a :: rest) (hr : a.ref r = .ok h) (object : h ≠ null) :
    runTop (throwRef r) s = raises s a rest a.pc h s.ports :=
  runTop_raises hs <| (handler_bind_ok (readRef_ok hr)).trans (congrFun (if_neg object) _)

theorem throwRef_null {e : Handle} {p : Ports} (hs : s.stack = a :: rest) (hr : a.ref r = .ok null)
    (made : throwNew (.nullPointer .throw) s.ports = (e, p)) : runTop (throwRef r) s = raises s a rest a.pc e p :=
  runTop_raises hs <| (handler_bind_ok (readRef_ok hr)).trans <|
    (congrFun (if_pos rfl) _).trans (raise_new_of_eq made)

end

/-- Settles O37. -/
theorem throwRaises : Obligations.ThrowRaises := fun _ _ _ _ _ hs hr =>
  ⟨throwRef_thrown hs hr, fun isNull _ _ => throwRef_null hs (isNull ▸ hr)⟩

/-! ### The returns (R442 to R446) -/

section
variable {s : State} {a : Activation} {rest : List Activation}

/-- A handler that comes down to `finish`. -/
theorem runTop_finishes {h : Handler Unit} {v : ReturnValue} (hs : s.stack = a :: rest)
    (runs : h (Ctx.enter s a rest) = finish v (Ctx.enter s a rest)) :
    runTop h s = becomes s rest { a with st := .finished, ret := v } := runTop_becomes hs runs

/-- A handler whose check of the return code fails (R446). -/
theorem runTop_mismatch {h : Handler Unit} (hs : s.stack = a :: rest)
    (runs : h (Ctx.enter s a rest) = returnMismatch (Ctx.enter s a rest)) :
    runTop h s = faults s (.paramMismatch a.pc) := runTop_faultsAt (p := s.ports) hs runs

end

section
variable {c : Ctx} {r : Nat}

theorem finishVoid_run : finishVoid c = (if c.top.method.shorty.ret = none then finish .void else returnMismatch) c := by
  rw [finishVoid, handler_bind_ok (getTop_run c)]
  cases c.top.method.shorty.ret <;> rfl

theorem finishI32_matched {v : Word32} {k : Code32} (hr : c.top.i32 r = .ok v)
    (kind : c.top.method.shorty.ret = some (.w32 k)) : finishI32 r c = finish (.value (.w32 k v)) c := by
  rw [finishI32, handler_bind_ok (readI32_ok hr), handler_bind_ok (getTop_run c), kind]

theorem finishI32_mismatch {v : Word32} (hr : c.top.i32 r = .ok v)
    (other : ∀ k, c.top.method.shorty.ret ≠ some (.w32 k)) : finishI32 r c = returnMismatch c := by
  rw [finishI32, handler_bind_ok (readI32_ok hr), handler_bind_ok (getTop_run c)]
  refine congrFun ?_ c
  split
  next k kind => exact absurd kind (other k)
  next => rfl

theorem finishI64_matched {v : Word64} {k : Code64} (hr : c.top.i64 r = .ok v)
    (kind : c.top.method.shorty.ret = some (.w64 k)) : finishI64 r c = finish (.value (.w64 k v)) c := by
  rw [finishI64, handler_bind_ok (readI64_ok hr), handler_bind_ok (getTop_run c), kind]

theorem finishI64_mismatch {v : Word64} (hr : c.top.i64 r = .ok v)
    (other : ∀ k, c.top.method.shorty.ret ≠ some (.w64 k)) : finishI64 r c = returnMismatch c := by
  rw [finishI64, handler_bind_ok (readI64_ok hr), handler_bind_ok (getTop_run c)]
  refine congrFun ?_ c
  split
  next k kind => exact absurd kind (other k)
  next => rfl

theorem finishRef_matched {h : Handle} (hr : c.top.ref r = .ok h) (kind : c.top.method.shorty.ret = some .L) :
    finishRef r c = finish (.value (.ref h)) c := by
  rw [finishRef, handler_bind_ok (readRef_ok hr), handler_bind_ok (getTop_run c), kind]

theorem finishRef_mismatch {h : Handle} (hr : c.top.ref r = .ok h) (other : c.top.method.shorty.ret ≠ some .L) :
    finishRef r c = returnMismatch c := by
  rw [finishRef, handler_bind_ok (readRef_ok hr), handler_bind_ok (getTop_run c)]
  refine congrFun ?_ c
  split
  next kind => exact absurd kind other
  next => rfl

end

/-- Settles O38: each return either finishes or takes F4, by the return code. -/
theorem returnsFinish : Obligations.ReturnsFinish := fun _ _ _ _ hs =>
  ⟨fun kind => runTop_finishes hs (finishVoid_run.trans (congrFun (if_pos kind) _)),
    fun other => runTop_mismatch hs (finishVoid_run.trans (congrFun (if_neg other) _)),
    fun _ hr => ⟨fun _ kind => runTop_finishes hs (finishI32_matched hr kind),
      fun other => runTop_mismatch hs (finishI32_mismatch hr other)⟩,
    fun _ hr => ⟨fun _ kind => runTop_finishes hs (finishI64_matched hr kind),
      fun other => runTop_mismatch hs (finishI64_mismatch hr other)⟩,
    fun _ hr => ⟨fun kind => runTop_finishes hs (finishRef_matched hr kind),
      fun other => runTop_mismatch hs (finishRef_mismatch hr other)⟩⟩

/-! ### Monitors (R455 to R457) -/

section
variable {c : Ctx} {r : Nat} {h e : Handle} {p : Ports}

theorem nullMonitor_fault {pc0 : Nat} (policy : c.params.monitorNull = .fault) :
    nullMonitor pc0 c = .error (.faulted (.nullMonitor pc0)) c := by
  rw [nullMonitor, handler_bind_ok (handler_get c), policy]
  exact faultWith_run _ c

theorem nullMonitor_npe {pc0 : Nat} (policy : c.params.monitorNull = .npe)
    (made : throwNew (.nullPointer .monitor) c.ports = (e, p)) :
    nullMonitor pc0 c = .error (.raised e) { c with ports := p } := by
  rw [nullMonitor, handler_bind_ok (handler_get c), policy]
  exact raise_new_of_eq made

theorem acquireMonitor_null (hr : c.top.ref r = .ok null) : acquireMonitor r c = nullMonitor c.top.pc c :=
  (handler_bind_ok (readRef_ok hr)).trans ((handler_bind_ok (getTop_run c)).trans (congrFun (if_pos rfl) c))

/-- What monitor-enter does with the host's answer (R456). -/
def afterEnter : MonitorReply → Handler Unit
  | .acquired => advance 1
  | .fails e => raise (.host e)
  | .unanswered => noAnswer

theorem acquireMonitor_asked {reply : MonitorReply} (hr : c.top.ref r = .ok h) (object : h ≠ null)
    (answer : monitorEnterOn h c.ports = (reply, p)) :
    acquireMonitor r c = afterEnter reply { c with ports := p } := by
  rw [acquireMonitor, handler_bind_ok (readRef_ok hr), handler_bind_ok (getTop_run c), if_neg object,
    handler_bind_ok (ask_of_eq answer)]
  cases reply <;> rfl

/-- The cursor has moved before the operand is looked at (R457). -/
theorem releaseMonitor_null (hr : c.top.ref r = .ok null) :
    releaseMonitor r c = nullMonitor c.top.pc { c with top := c.top.advance 1 } :=
  (handler_bind_ok (readRef_ok hr)).trans <| (handler_bind_ok (getTop_run c)).trans <|
    (handler_bind_ok (advance_run 1 c)).trans (congrFun (if_pos rfl) _)

theorem releaseMonitor_asked {reply : Reply Unit} (hr : c.top.ref r = .ok h) (object : h ≠ null)
    (answer : monitorExitOn h c.ports = (reply, p)) :
    releaseMonitor r c = orHost reply { c with top := c.top.advance 1, ports := p } :=
  (handler_bind_ok (readRef_ok hr)).trans <| (handler_bind_ok (getTop_run c)).trans <|
    (handler_bind_ok (advance_run 1 c)).trans <| (congrFun (if_neg object) _).trans <|
    handler_bind_ok (ask_of_eq (c := { c with top := c.top.advance 1 }) answer)

end

section
variable {s : State} {a : Activation} {rest : List Activation} {h : Handler Unit} {p : Ports}

/-- A handler that raises with its cursor one unit on, as monitor-exit does (R457). -/
theorem runTop_raises_advanced {e : Handle} (hs : s.stack = a :: rest)
    (hc : h (Ctx.enter s a rest) = .error (.raised e) { Ctx.enter s a rest with top := a.advance 1, ports := p }) :
    runTop h s = raises s a rest (a.pc + 1) e p := runTop_raised hs hc

/-- A handler that faults with its cursor one unit on. -/
theorem runTop_faults_advanced {f : EngineFault} (hs : s.stack = a :: rest)
    (hc : h (Ctx.enter s a rest) = .error (.faulted f) { Ctx.enter s a rest with top := a.advance 1 }) :
    runTop h s = faults { s with stack := { a with pc := a.pc + 1 } :: rest } f := runTop_faulted hs hc

end

/-- Settles O39: on an object by the host's answer, on NULL by MONITOR_NULL. -/
theorem monitors : Obligations.Monitors := by
  intro s a rest r h e p hs hr
  refine ⟨fun object => ?onObject, ?onNull⟩
  case onObject =>
    have entering {reply : MonitorReply} := acquireMonitor_asked (c := .enter s a rest) (p := p) (reply := reply) hr object
    have leaving {reply : Reply Unit} := releaseMonitor_asked (c := .enter s a rest) (p := p) (reply := reply) hr object
    exact ⟨fun answer => runTop_becomesAt hs (entering answer), fun answer => runTop_raises hs (entering answer),
      fun answer => runTop_unanswered hs (entering answer), fun answer => runTop_becomesAt hs (leaving answer),
      fun answer => runTop_raises_advanced hs (leaving answer)⟩
  case onNull =>
    rintro rfl
    have entering := acquireMonitor_null (c := .enter s a rest) hr
    have leaving := releaseMonitor_null (c := .enter s a rest) hr
    refine ⟨fun policy => ⟨?_, ?_⟩, fun policy made => ⟨?_, ?_⟩⟩
    · exact runTop_faultsAt (p := s.ports) hs (entering.trans (nullMonitor_fault policy))
    · exact runTop_faults_advanced hs (leaving.trans (nullMonitor_fault policy))
    · exact runTop_raises hs (entering.trans (nullMonitor_npe policy made))
    · exact runTop_raises_advanced hs (leaving.trans (nullMonitor_npe policy made))

end Sys2Proof.Machine
end

section
/-! The switches (spec/44_control_flow.md R437 to R440): the head the two tables share, the entry a switch selects, and what
each does with its cases. -/

namespace Sys2Proof.Machine

/-! ### Reads of the stream by a handler (R82, R85, R91) -/

section
variable {m : Method} {k : Int}

theorem Method.unit_ok_bounds {u : CodeUnit} (h : m.unit k = .ok u) : 0 ≤ k ∧ k < m.len := by
  by_contra outside
  rw [Method.unit_of_outside (by omega)] at h
  cases h

/-- The higher of the two units is read first, so it is the one that F3 names (entry 19). -/
theorem Method.unit32_past (past : m.len ≤ k + 1) : m.unit32 k = .error (.pcRange (k + 1)) := by
  rw [Method.unit32, Method.unit_of_outside (.inr past)]
  rfl

theorem Method.unit32_inside (start : 0 ≤ k) (inside : k + 1 < m.len) : ∃ v, m.unit32 k = .ok v := by
  lift k to Nat using start
  obtain ⟨lo, hlo⟩ := Method.unit_of_inside (m := m) (k := k) (by omega)
  obtain ⟨hi, hhi⟩ := Method.unit_of_inside (m := m) (k := k + 1) (by omega)
  exact ⟨hi ++ lo, by rw [Method.unit32, hlo, ← Int.natCast_succ, hhi]; rfl⟩

/-- Values that stand one after another are read as a list. -/
theorem Method.units32_ok {vs : List Word32} (stands : ∀ (j : Nat) v, vs[j]? = some v → m.unit32 (k + 2 * j) = .ok v) :
    m.units32 k vs.length = .ok vs := by
  induction vs generalizing k with
  | nil => rfl
  | cons v vs ih =>
    have first : m.unit32 k = .ok v := by simpa using stands 0 v rfl
    have later : m.units32 (k + 2) vs.length = .ok vs := ih fun j u hu => by
      rw [← stands (j + 1) u hu]
      congr 1
      omega
    rw [List.length_cons, Method.units32, first, later]
    rfl

/-- Of values that run off the stream, the first that does so gives the F3. -/
theorem Method.units32_past {n : Nat} (start : 0 ≤ k) (inside : k ≤ m.len) (past : m.len < k + 2 * n) :
    ∃ j : Int, m.len ≤ j ∧ j < k + 2 * n ∧ m.units32 k n = .error (.pcRange j) := by
  induction n generalizing k with
  | zero => omega
  | succ n ih =>
    by_cases off : m.len ≤ k + 1
    · exact ⟨k + 1, off, by omega, by rw [Method.units32, Method.unit32_past off]; rfl⟩
    · obtain ⟨v, first⟩ := Method.unit32_inside (m := m) start (by omega)
      obtain ⟨j, outside, below, later⟩ := ih (k := k + 2) (by omega) (by omega) (by omega)
      exact ⟨j, outside, by omega, by rw [Method.units32, first, later]; rfl⟩

end

section
variable {c : Ctx} {k : Int}

theorem readUnit_ok {u : CodeUnit} (h : c.top.method.unit k = .ok u) : readUnit k c = .ok u c := by
  rw [readUnit_run, h, checked_ok]

theorem readUnit_outside (outside : k < 0 ∨ c.top.method.len ≤ k) :
    readUnit k c = .error (.faulted (.pcRange k)) c := by
  rw [readUnit_run, Method.unit_of_outside outside, checked_error]

theorem readUnit32_ok {v : Word32} (h : c.top.method.unit32 k = .ok v) : readUnit32 k c = .ok v c := by
  rw [readUnit32_run, h, checked_ok]

theorem readUnit32_past (past : c.top.method.len ≤ k + 1) :
    readUnit32 k c = .error (.faulted (.pcRange (k + 1))) c := by
  rw [readUnit32_run, Method.unit32_past past, checked_error]

theorem checkMagic_ok {magic : CodeUnit} (h : c.top.method.unit k = .ok magic) : checkMagic magic k c = .ok () c :=
  (handler_bind_ok (readUnit_ok h)).trans (congrFun (if_pos rfl) c)

theorem checkMagic_bad {magic u : CodeUnit} (h : c.top.method.unit k = .ok u) (other : u ≠ magic) :
    checkMagic magic k c = .error (.faulted (.badMagic k u)) c :=
  (handler_bind_ok (readUnit_ok h)).trans (congrFun (if_neg other) c)

theorem checkMagic_outside {magic : CodeUnit} (outside : k < 0 ∨ c.top.method.len ≤ k) :
    checkMagic magic k c = .error (.faulted (.pcRange k)) c := handler_bind_error (readUnit_outside outside)

end

/-! ### The head of a table (R437, R439) -/

/-- A switch: the test value, the magic and the size of the table, then its cases. -/
def switchOn (magic : CodeUnit) (src : Nat) (off : Word32) (body : Activation → Word32 → Int → CodeUnit → Handler Unit) :
    Handler Unit := do
  let v ← readI32 src
  let a ← getTop
  let t : Int := a.pc + off.toInt
  checkMagic magic t
  let size ← readUnit (t + 1)
  body a v t size

section
variable {s : State} {a : Activation} {rest : List Activation} {magic : CodeUnit} {src : Nat} {off v : Word32}
  {body : Activation → Word32 → Int → CodeUnit → Handler Unit}

/-- Up to the check of its magic a switch has only read. -/
theorem switchOn_run (hs : s.stack = a :: rest) (hv : a.i32 src = .ok v) :
    runTop (switchOn magic src off body) s = runTop (do
      checkMagic magic (a.pc + off.toInt)
      let size ← readUnit (a.pc + off.toInt + 1)
      body a v (a.pc + off.toInt) size) s :=
  runTop_congr hs <| (handler_bind_ok (readI32_ok hv)).trans (handler_bind_ok (getTop_run (.enter s a rest)))

theorem switchOn_outside (hs : s.stack = a :: rest) (hv : a.i32 src = .ok v)
    (outside : (a.pc : Int) + off.toInt < 0 ∨ (a.method.len : Int) ≤ a.pc + off.toInt) :
    runTop (switchOn magic src off body) s = faults s (.pcRange (a.pc + off.toInt)) :=
  (switchOn_run hs hv).trans <| runTop_faultsAt (p := s.ports) hs <|
    handler_bind_error (checkMagic_outside (c := .enter s a rest) outside)

theorem switchOn_badMagic {u : CodeUnit} (hs : s.stack = a :: rest) (hv : a.i32 src = .ok v)
    (first : a.method.unit (a.pc + off.toInt) = .ok u) (other : u ≠ magic) :
    runTop (switchOn magic src off body) s = faults s (.badMagic (a.pc + off.toInt) u) :=
  (switchOn_run hs hv).trans <| runTop_faultsAt (p := s.ports) hs <|
    handler_bind_error (checkMagic_bad (c := .enter s a rest) first other)

theorem switchOn_noSize (hs : s.stack = a :: rest) (hv : a.i32 src = .ok v)
    (first : a.method.unit (a.pc + off.toInt) = .ok magic)
    (past : (a.method.len : Int) ≤ a.pc + off.toInt + 1) :
    runTop (switchOn magic src off body) s = faults s (.pcRange (a.pc + off.toInt + 1)) :=
  (switchOn_run hs hv).trans <| runTop_faultsAt (p := s.ports) hs <|
    (handler_bind_ok (checkMagic_ok (c := .enter s a rest) first)).trans <|
      handler_bind_error (readUnit_outside (c := .enter s a rest) (.inr past))

theorem switchOn_cases {size : CodeUnit} (hs : s.stack = a :: rest) (hv : a.i32 src = .ok v)
    (first : a.method.unit (a.pc + off.toInt) = .ok magic)
    (second : a.method.unit (a.pc + off.toInt + 1) = .ok size) :
    runTop (switchOn magic src off body) s = runTop (body a v (a.pc + off.toInt) size) s :=
  (switchOn_run hs hv).trans <| runTop_congr hs <|
    (handler_bind_ok (checkMagic_ok (c := .enter s a rest) first)).trans <|
      handler_bind_ok (readUnit_ok (c := .enter s a rest) second)

end

/-! ### The selected target (R438, R440) -/

/-- The target a switch has selected stands in the table at unit `k`. -/
def jumpThrough (k : Int) : Handler Unit := do
  let target ← readUnit32 k
  jump target.toInt

section
variable {s : State} {a : Activation} {rest : List Activation} {k : Int}

theorem jumpThrough_past (hs : s.stack = a :: rest) (past : (a.method.len : Int) ≤ k + 1) :
    runTop (jumpThrough k) s = faults s (.pcRange (k + 1)) :=
  runTop_faultsAt (p := s.ports) hs <| handler_bind_error (readUnit32_past (c := .enter s a rest) past)

/-- A target that is read is jumped to, as a branch's (R176). -/
theorem jumpThrough_jumps {target : Word32} (hs : s.stack = a :: rest) (ht : a.method.unit32 k = .ok target) :
    (0 ≤ (a.pc : Int) + target.toInt → (a.pc : Int) + target.toInt ≤ a.method.len →
      runTop (jumpThrough k) s = becomes s rest (a.atPc (a.pc + target.toInt))) ∧
    ((a.pc : Int) + target.toInt < 0 ∨ (a.method.len : Int) < a.pc + target.toInt →
      runTop (jumpThrough k) s = faults s (.pcRange (a.pc + target.toInt))) :=
  have jumps : runTop (jumpThrough k) s = runTop (jump target.toInt) s :=
    runTop_congr hs (handler_bind_ok (readUnit32_ok (c := .enter s a rest) ht))
  ⟨fun low high => jumps.trans (jump_becomes hs ⟨low, high⟩), fun outside => jumps.trans (jump_faults hs outside)⟩

end

/-! ### packed-switch (R437, R438) -/

/-- The cases of a packed switch: the index wraps at 32 bits. -/
def packedCases (v : Word32) (t : Int) (size : CodeUnit) : Handler Unit := do
  let first ← readUnit32 (t + 2)
  if 0 ≤ (v - first).toInt ∧ (v - first).toInt < size.toNat then jumpThrough (t + 4 + 2 * (v - first).toInt)
  else advance 3

theorem packedSwitchOn_eq (src : Nat) (off : Word32) :
    packedSwitchOn src off = switchOn 0x0100#16 src off fun _ => packedCases := by
  have index (v first : Word32) : (BitVec.ofInt 32 (v.toInt - first.toInt)).toInt = (v - first).toInt := by
    rw [BitVec.toInt_ofInt, BitVec.toInt_sub]
  simp only [packedSwitchOn, index]
  rfl

section
variable {s : State} {a : Activation} {rest : List Activation} {v first : Word32} {t : Int} {size : CodeUnit}

theorem packedCases_past (hs : s.stack = a :: rest) (past : (a.method.len : Int) ≤ t + 3) :
    runTop (packedCases v t size) s = faults s (.pcRange (t + 3)) := by
  have high : t + 2 + 1 = t + 3 := by omega
  rw [← high] at past ⊢
  exact runTop_faultsAt (p := s.ports) hs <| handler_bind_error (readUnit32_past (c := .enter s a rest) past)

theorem packedCases_default (hs : s.stack = a :: rest) (hf : a.method.unit32 (t + 2) = .ok first)
    (out : (v - first).toInt < 0 ∨ (size.toNat : Int) ≤ (v - first).toInt) :
    runTop (packedCases v t size) s = becomes s rest { a with pc := a.pc + 3 } :=
  runTop_becomes hs <| (handler_bind_ok (readUnit32_ok (c := .enter s a rest) hf)).trans (congrFun (if_neg (by omega)) _)

theorem packedCases_selects (hs : s.stack = a :: rest) (hf : a.method.unit32 (t + 2) = .ok first)
    (low : 0 ≤ (v - first).toInt) (high : (v - first).toInt < size.toNat) :
    runTop (packedCases v t size) s = runTop (jumpThrough (t + 4 + 2 * (v - first).toInt)) s :=
  runTop_congr hs <| (handler_bind_ok (readUnit32_ok (c := .enter s a rest) hf)).trans (congrFun (if_pos ⟨low, high⟩) _)

end

/-- Settles O35: by how far the table is read, header, first key and selected target in turn. -/
theorem packedSwitch : Obligations.PackedSwitch := by
  intro s a rest r o v hs hv t length leaves
  have runs : exec (.packedSwitch r o) s = runTop (switchOn 0x0100#16 r.toNat o fun _ => packedCases) s :=
    congrArg (runTop · s) (packedSwitchOn_eq r.toNat o)
  simp only [leaves, runs]
  refine ⟨switchOn_outside hs hv, fun _ => switchOn_badMagic hs hv, switchOn_noSize hs hv,
    fun size magic sized past => ?noFirst, fun size first magic sized hf => ⟨?default, ?noTarget, ?target⟩⟩
  case noFirst =>
    exact ⟨t + 3, by simp, past, (switchOn_cases hs hv magic sized).trans (packedCases_past hs past)⟩
  case default =>
    exact fun out => (switchOn_cases hs hv magic sized).trans (packedCases_default hs hf out)
  case noTarget =>
    intro low high past
    have odd : t + 4 + 2 * (v - first).toInt + 1 = t + 5 + 2 * (v - first).toInt := by omega
    rw [switchOn_cases hs hv magic sized, packedCases_selects hs hf low high]
    exact ⟨_, by simp, past, odd ▸ jumpThrough_past hs (odd.symm ▸ past)⟩
  case target =>
    intro target low high ht
    rw [switchOn_cases hs hv magic sized, packedCases_selects hs hf low high]
    exact jumpThrough_jumps hs ht

/-! ### sparse-switch (R439, R440) -/

/-- What a sparse switch does with its keys: their order is checked before the match. -/
def sparseMatch (v : Word32) (t : Int) (size : CodeUnit) (keys : List Word32) : Handler Unit :=
  if ascending keys then
    match keys.idxOf? v with
    | some j => jumpThrough (t + 2 + 2 * size.toNat + 2 * j)
    | none => advance 3
  else faultWith (.badTable t)

/-- The cases of a sparse switch: all keys are read. -/
def sparseCases (a : Activation) (v : Word32) (t : Int) (size : CodeUnit) : Handler Unit := do
  let keys ← checked (a.method.units32 (t + 2) size.toNat)
  sparseMatch v t size keys

theorem sparseSwitchOn_eq (src : Nat) (off : Word32) : sparseSwitchOn src off = switchOn 0x0200#16 src off sparseCases :=
  rfl

theorem ascending_iff (keys : List Word32) : ascending keys = true ↔ keys.Pairwise (fun j k => j.toInt < k.toInt) := by
  have trans : Trans (fun j k : Word32 => j.toInt < k.toInt) (fun j k : Word32 => j.toInt < k.toInt)
    (fun j k : Word32 => j.toInt < k.toInt) := ⟨Int.lt_trans⟩
  rw [← List.isChain_iff_pairwise]
  induction keys using ascending.induct with
  | case1 j k keys ih =>
    rw [ascending, Bool.and_eq_true, decide_eq_true_iff, List.isChain_cons_cons]
    exact and_congr_right' ih
  | case2 keys short =>
    match keys, short with
    | [], _ => exact iff_of_true rfl .nil
    | [_], _ => exact iff_of_true rfl (.singleton _)
    | j :: k :: keys, short => exact absurd rfl (short j k keys)

/-- Among strictly ascending keys a key stands once, so the search finds its place (R440). -/
theorem idxOf?_of_ascending {keys : List Word32} {v : Word32} {j : Nat}
    (sorted : keys.Pairwise (fun j k => j.toInt < k.toInt)) (hj : keys[j]? = some v) : keys.idxOf? v = some j := by
  obtain ⟨lt, rfl⟩ := List.getElem?_eq_some_iff.1 hj
  refine List.idxOf?_eq_some_iff.2 ⟨lt, rfl, fun i before same => ?_⟩
  exact (List.pairwise_iff_getElem.1 sorted i j _ lt before).ne (congrArg BitVec.toInt same)

section
variable {s : State} {a : Activation} {rest : List Activation} {v : Word32} {t : Int} {size : CodeUnit}
  {keys : List Word32}

theorem sparseCases_past (hs : s.stack = a :: rest) (start : 0 ≤ t + 2) (inside : t + 2 ≤ a.method.len)
    (past : (a.method.len : Int) < t + 2 + 2 * size.toNat) :
    ∃ k, (a.method.len : Int) ≤ k ∧ k < t + 2 + 2 * size.toNat ∧
      runTop (sparseCases a v t size) s = faults s (.pcRange k) := by
  obtain ⟨k, outside, below, read⟩ := Method.units32_past start inside past
  refine ⟨k, outside, below, runTop_faultsAt (p := s.ports) hs (handler_bind_error ?_)⟩
  rw [read]
  exact checked_error _ _

theorem sparseCases_keys (hs : s.stack = a :: rest) (hk : a.method.units32 (t + 2) size.toNat = .ok keys) :
    runTop (sparseCases a v t size) s = runTop (sparseMatch v t size keys) s := by
  rw [sparseCases, hk]
  exact runTop_congr hs (handler_bind_ok (checked_ok keys (.enter s a rest)))

theorem sparseCases_unsorted (hs : s.stack = a :: rest) (hk : a.method.units32 (t + 2) size.toNat = .ok keys)
    (unsorted : ¬keys.Pairwise (fun j k => j.toInt < k.toInt)) :
    runTop (sparseCases a v t size) s = faults s (.badTable t) := by
  rw [sparseCases_keys hs hk, sparseMatch, if_neg (mt (ascending_iff keys).1 unsorted)]
  exact runTop_faultsAt (p := s.ports) hs (faultWith_run _ _)

theorem sparseCases_default (hs : s.stack = a :: rest) (hk : a.method.units32 (t + 2) size.toNat = .ok keys)
    (sorted : keys.Pairwise (fun j k => j.toInt < k.toInt)) (absent : v ∉ keys) :
    runTop (sparseCases a v t size) s = becomes s rest { a with pc := a.pc + 3 } := by
  rw [sparseCases_keys hs hk, sparseMatch, if_pos ((ascending_iff keys).2 sorted), List.idxOf?_eq_none_iff.2 absent]
  exact runTop_becomes hs (advance_run 3 _)

theorem sparseCases_selects {j : Nat} (hs : s.stack = a :: rest)
    (hk : a.method.units32 (t + 2) size.toNat = .ok keys)
    (sorted : keys.Pairwise (fun j k => j.toInt < k.toInt)) (hj : keys[j]? = some v) :
    runTop (sparseCases a v t size) s = runTop (jumpThrough (t + 2 + 2 * size.toNat + 2 * j)) s := by
  rw [sparseCases_keys hs hk, sparseMatch, if_pos ((ascending_iff keys).2 sorted), idxOf?_of_ascending sorted hj]

end

/-- Settles O36: by how far the table is read, header, keys and selected target in turn. -/
theorem sparseSwitch : Obligations.SparseSwitch := by
  intro s a rest r o v hs hv t length leaves
  have runs : exec (.sparseSwitch r o) s = runTop (switchOn 0x0200#16 r.toNat o sparseCases) s :=
    congrArg (runTop · s) (sparseSwitchOn_eq r.toNat o)
  simp only [leaves, runs]
  refine ⟨switchOn_outside hs hv, fun _ => switchOn_badMagic hs hv, switchOn_noSize hs hv,
    fun size magic sized past => ?noKey, fun size keys magic sized count stands => ?withKeys⟩
  case noKey =>
    have head := Method.unit_ok_bounds magic
    have next := Method.unit_ok_bounds sized
    rw [switchOn_cases hs hv magic sized]
    exact sparseCases_past hs (by omega) (by omega) past
  case withKeys =>
    have hk : a.method.units32 (t + 2) size.toNat = .ok keys := count ▸ Method.units32_ok stands
    rw [switchOn_cases hs hv magic sized]
    refine ⟨sparseCases_unsorted hs hk, sparseCases_default hs hk, fun j sorted hj => ?_⟩
    rw [sparseCases_selects hs hk sorted hj]
    exact ⟨fun past => ⟨_, by simp, past, jumpThrough_past hs past⟩, fun _ => jumpThrough_jumps hs⟩

end Sys2Proof.Machine
end

section
/-! The parts that the instructions of spec/45_object_array_field.md share: a handler that goes on with other ports, the
answers that may fail, the null check, and the instructions on objects and types (R471 to R475). -/

namespace Sys2Proof.Machine

/-! ### Going on after a transaction (R66, R604) -/

section
variable {s : State} {a : Activation} {rest : List Activation} {p : Ports}

/-- A handler that has only asked, and goes on as another would with the ports it has left. -/
theorem runTop_goesOn {h k : Handler Unit} (hs : s.stack = a :: rest)
    (goes : h (Ctx.enter s a rest) = k { Ctx.enter s a rest with ports := p }) :
    runTop h s = runTop k { s with ports := p } := by
  simp only [runTop, hs, goes]
  rfl

end

section
variable {α β : Type} {c : Ctx} {p : Ports} {m : Port (Reply α)} {f : α → Handler β}

theorem ask_orResolution_ok {v : α} (answer : m c.ports = (.ok v, p)) :
    (ask m >>= fun r => orResolution r >>= f) c = f v { c with ports := p } :=
  (handler_bind_ok (ask_of_eq answer)).trans (handler_bind_ok (orResolution_run (.ok v) _))

/-- X7 with the collaborator's exception. -/
theorem ask_orResolution_fails {e : Handle} (answer : m c.ports = (.fails e, p)) :
    (ask m >>= fun r => orResolution r >>= f) c = .error (.raised e) { c with ports := p } :=
  (handler_bind_ok (ask_of_eq answer)).trans (handler_bind_error (orResolution_run (.fails e) _))

theorem ask_orHost_ok {v : α} (answer : m c.ports = (.ok v, p)) :
    (ask m >>= fun r => orHost r >>= f) c = f v { c with ports := p } :=
  (handler_bind_ok (ask_of_eq answer)).trans (handler_bind_ok (orHost_run (.ok v) _))

/-- X8 with the host's exception. -/
theorem ask_orHost_fails {e : Handle} (answer : m c.ports = (.fails e, p)) :
    (ask m >>= fun r => orHost r >>= f) c = .error (.raised e) { c with ports := p } :=
  (handler_bind_ok (ask_of_eq answer)).trans (handler_bind_error (orHost_run (.fails e) _))

end

section
variable {c : Ctx} {p : Ports} {h e : Handle} {what : NullWhat}

theorem requireNonNull_object (object : h ≠ null) : requireNonNull h what c = .ok () c := congrFun (if_neg object) c

theorem requireNonNull_null (isNull : h = null) (made : throwNew (.nullPointer what) c.ports = (e, p)) :
    requireNonNull h what c = .error (.raised e) { c with ports := p } :=
  (congrFun (if_pos isNull) c).trans (raise_new_of_eq made)

end

section
variable {c : Ctx} {d : Nat}

/-- A result written as the last thing an instruction of `n` units does. -/
theorem writeI32_advance (v : Word32) (n : Nat) (hd : d < c.top.regs.length) :
    (writeI32 d v >>= fun _ => advance n) c = .ok () { c with top := c.top.with32 d v n } :=
  handler_bind_ok (writeI32_ok v hd)
theorem writeF32_advance (v : Word32) (n : Nat) (hd : d < c.top.regs.length) :
    (writeF32 d v >>= fun _ => advance n) c = .ok () { c with top := c.top.withF32 d v n } :=
  handler_bind_ok (writeF32_ok v hd)
theorem writeI64_advance (v : Word64) (n : Nat) (hd : d + 1 < c.top.regs.length) :
    (writeI64 d v >>= fun _ => advance n) c = .ok () { c with top := c.top.with64 d v n } :=
  handler_bind_ok (writeI64_ok v hd)
theorem writeRef_advance (v : Handle) (n : Nat) (hd : d < c.top.regs.length) :
    (writeRef d v >>= fun _ => advance n) c = .ok () { c with top := c.top.withRef d v n } :=
  handler_bind_ok (writeRef_ok v hd)

end

/-! ### Objects and types (R471 to R475) -/

section
variable {c : Ctx} {p q : Ports} {h cls e : Handle} {d r t : Nat}

theorem lengthOf_null (hr : c.top.ref r = .ok null) (made : throwNew (.nullPointer .array) c.ports = (e, p)) :
    lengthOf d r c = .error (.raised e) { c with ports := p } :=
  (handler_bind_ok (readRef_ok hr)).trans (handler_bind_error (requireNonNull_null rfl made))

theorem lengthOf_object {n : Word32} (hr : c.top.ref r = .ok h) (object : h ≠ null)
    (answer : arrayLength h c.ports = (n, p)) (hd : d < c.top.regs.length) :
    lengthOf d r c = .ok () { c with top := c.top.with32 d n 1, ports := p } :=
  (handler_bind_ok (readRef_ok hr)).trans <| (handler_bind_ok (requireNonNull_object object)).trans <|
    (handler_bind_ok (ask_of_eq answer)).trans (writeI32_advance n 1 hd)

theorem allocObject_ok (resolved : resolveClass t c.ports = (.ok cls, p)) (made : newObject cls p = (.ok h, q))
    (hd : d < c.top.regs.length) : allocObject d t c = .ok () { c with top := c.top.withRef d h 2, ports := q } := by
  rw [allocObject, handler_bind_ok (classRef_ok resolved)]
  refine (ask_orHost_ok made).trans ?_
  exact writeRef_advance h 2 hd

theorem allocObject_fails (resolved : resolveClass t c.ports = (.ok cls, p)) (failed : newObject cls p = (.fails e, q)) :
    allocObject d t c = .error (.raised e) { c with ports := q } := by
  rw [allocObject, handler_bind_ok (classRef_ok resolved)]
  exact ask_orHost_fails failed

theorem allocArrayOf_ok {n : Word32} (hr : c.top.i32 r = .ok n) (resolved : resolveClass t c.ports = (.ok cls, p))
    (length : 0 ≤ n.toInt) (made : allocArray n.toNat t p = (.ok h, q)) (hd : d < c.top.regs.length) :
    allocArrayOf d r t c = .ok () { c with top := c.top.withRef d h 2, ports := q } := by
  rw [allocArrayOf, handler_bind_ok (readI32_ok hr), handler_bind_ok (classRef_ok resolved), if_neg (Int.not_lt.2 length)]
  refine (ask_orResolution_ok made).trans ?_
  exact writeRef_advance h 2 hd

theorem allocArrayOf_fails {n : Word32} (hr : c.top.i32 r = .ok n) (resolved : resolveClass t c.ports = (.ok cls, p))
    (length : 0 ≤ n.toInt) (failed : allocArray n.toNat t p = (.fails e, q)) :
    allocArrayOf d r t c = .error (.raised e) { c with ports := q } := by
  rw [allocArrayOf, handler_bind_ok (readI32_ok hr), handler_bind_ok (classRef_ok resolved), if_neg (Int.not_lt.2 length)]
  exact ask_orResolution_fails failed

/-- The length is looked at once the class has resolved (R473). -/
theorem allocArrayOf_negative {n : Word32} (hr : c.top.i32 r = .ok n) (resolved : resolveClass t c.ports = (.ok cls, p))
    (negative : n.toInt < 0) (made : throwNew (.negativeArraySize n.toInt) p = (e, q)) :
    allocArrayOf d r t c = .error (.raised e) { c with ports := q } := by
  rw [allocArrayOf, handler_bind_ok (readI32_ok hr), handler_bind_ok (classRef_ok resolved), if_pos negative]
  exact raise_new_of_eq made

/-- The host is not asked of NULL. -/
theorem instanceOrNull_null {b : Bool} (isNull : h = null) : instanceOrNull h cls b c = .ok b c :=
  congrFun (if_pos isNull) c

theorem instanceOrNull_object {b answer : Bool} (object : h ≠ null) (asked : isInstanceOf h cls c.ports = (answer, p)) :
    instanceOrNull h cls b c = .ok answer { c with ports := p } :=
  (congrFun (if_neg object) c).trans (ask_of_eq asked)

theorem castCheck_passes (hr : c.top.ref r = .ok h) (resolved : resolveClass t c.ports = (.ok cls, p))
    (test : instanceOrNull h cls true { c with ports := p } = .ok true { c with ports := q }) :
    castCheck r t c = .ok () { c with top := c.top.advance 2, ports := q } := by
  rw [castCheck, handler_bind_ok (readRef_ok hr), handler_bind_ok (classRef_ok resolved), handler_bind_ok test]
  exact advance_run 2 _

theorem castCheck_raises {actual : Handle} {p₂ p₃ : Ports} (hr : c.top.ref r = .ok h) (object : h ≠ null)
    (resolved : resolveClass t c.ports = (.ok cls, p)) (other : isInstanceOf h cls p = (false, q))
    (asked : classOf h q = (actual, p₂)) (made : throwNew (.classCast actual cls) p₂ = (e, p₃)) :
    castCheck r t c = .error (.raised e) { c with ports := p₃ } := by
  have test : instanceOrNull h cls true { c with ports := p } = .ok false { c with ports := q } :=
    instanceOrNull_object object other
  have askedAt : ask (classOf h) { c with ports := q } = .ok actual { c with ports := p₂ } := ask_of_eq asked
  rw [castCheck, handler_bind_ok (readRef_ok hr), handler_bind_ok (classRef_ok resolved), handler_bind_ok test,
    if_neg Bool.false_ne_true, handler_bind_ok askedAt]
  exact raise_new_of_eq made

theorem instanceTest_writes {b : Bool} (hr : c.top.ref r = .ok h) (resolved : resolveClass t c.ports = (.ok cls, p))
    (test : instanceOrNull h cls false { c with ports := p } = .ok b { c with ports := q })
    (hd : d < c.top.regs.length) :
    instanceTest d r t c = .ok () { c with top := c.top.with32 d (if b then 1#32 else 0#32) 2, ports := q } := by
  rw [instanceTest, handler_bind_ok (readRef_ok hr), handler_bind_ok (classRef_ok resolved), handler_bind_ok test]
  exact writeI32_advance _ 2 hd

end

/-- Settles O40. -/
theorem objectsComplete : Obligations.ObjectsComplete := by
  intro s a rest h c p1 p2 p3 hs
  refine ⟨fun d r n hr object hd answer => runTop_becomesAt hs (lengthOf_object hr object answer hd),
    fun d t hd resolved made => runTop_becomesAt hs (allocObject_ok resolved made hd),
    fun d r t n hr length hd resolved made => runTop_becomesAt hs (allocArrayOf_ok hr resolved length made hd),
    fun r t hr resolved test => runTop_becomesAt hs (castCheck_passes hr resolved ?cast),
    fun d r t hr hd resolved => ⟨fun isNull => ?ofNull, fun b object asked => ?ofObject⟩⟩
  case cast =>
    rcases test with ⟨isNull, rfl⟩ | ⟨object, asked⟩
    · exact instanceOrNull_null isNull
    · exact instanceOrNull_object object asked
  case ofNull => exact runTop_becomesAt hs (instanceTest_writes hr resolved (instanceOrNull_null isNull) hd)
  case ofObject => exact runTop_becomesAt hs (instanceTest_writes hr resolved (instanceOrNull_object object asked) hd)

/-- Settles O41. -/
theorem objectsRaise : Obligations.ObjectsRaise := by
  intro s a rest h c e p1 p2 p3 p4 hs
  refine ⟨fun d r isNull made => runTop_raises hs (lengthOf_null isNull made), fun r d q t n failed => ?noClass,
    fun r t resolved failed => runTop_raises hs (allocObject_fails resolved failed),
    fun d r t n hr resolved => ⟨fun negative made => runTop_raises hs (allocArrayOf_negative hr resolved negative made),
      fun length failed => runTop_raises hs (allocArrayOf_fails hr resolved length failed)⟩,
    fun r t actual hr object resolved other asked made =>
      runTop_raises hs (castCheck_raises hr object resolved other asked made)⟩
  case noClass =>
    have unresolved {f : Handle → Handler Unit} : (classRef t.toNat >>= f) (Ctx.enter s a rest) =
        .error (.raised e) { Ctx.enter s a rest with ports := p1 } := handler_bind_error (classRef_raised failed)
    exact ⟨runTop_raises hs unresolved, fun hq => runTop_raises hs ((handler_bind_ok (readI32_ok hq)).trans unresolved),
      fun hr => runTop_raises hs ((handler_bind_ok (readRef_ok hr)).trans unresolved),
      fun hq => runTop_raises hs ((handler_bind_ok (readRef_ok hq)).trans unresolved)⟩

end Sys2Proof.Machine
end

section
/-! Array elements (spec/45_object_array_field.md R482 to R497): the checks that the fourteen accesses share, and what each
does with the element once they are passed. -/

namespace Sys2Proof.Machine

/-! ### The checks (R482, R490) -/

section
variable {c : Ctx} {p q : Ports} {arr e : Handle} {j : Int} {len : Word32}

theorem checkElement_inside (object : arr ≠ null) (length : arrayLength arr c.ports = (len, p)) (low : 0 ≤ j)
    (high : j < len.toNat) : checkElement arr j c = .ok () { c with ports := p } := by
  rw [checkElement, handler_bind_ok (requireNonNull_object object), handler_bind_ok (ask_of_eq length), if_neg (by omega)]
  exact handler_pure () _

theorem checkElement_null (isNull : arr = null) (made : throwNew (.nullPointer .array) c.ports = (e, p)) :
    checkElement arr j c = .error (.raised e) { c with ports := p } :=
  handler_bind_error (requireNonNull_null isNull made)

theorem checkElement_outside (object : arr ≠ null) (length : arrayLength arr c.ports = (len, p))
    (out : j < 0 ∨ (len.toNat : Int) ≤ j) (made : throwNew (.arrayIndex len.toNat j) p = (e, q)) :
    checkElement arr j c = .error (.raised e) { c with ports := q } := by
  rw [checkElement, handler_bind_ok (requireNonNull_object object), handler_bind_ok (ask_of_eq length), if_pos out]
  exact raise_new_of_eq made

end

/-- An element access: the array and the index are read and checked, then the element is reached. -/
def atElement {α : Type} (arrReg idxReg : Nat) (access : Handle → Int → Handler α) : Handler α := do
  let arr ← readRef arrReg
  let idx ← readI32 idxReg
  checkElement arr idx.toInt
  access arr idx.toInt

theorem atElement_bind {α β : Type} (arrReg idxReg : Nat) (access : Handle → Int → Handler α) (f : α → Handler β) :
    atElement arrReg idxReg access >>= f = atElement arrReg idxReg fun arr j => access arr j >>= f := by
  simp only [atElement, bind_assoc]

/-- What a get does with the element it is answered: a write, then the two units of the instruction. -/
def fetchElement (code : TypeCode) (write : Word64 → Handler Unit) (arr : Handle) (j : Int) : Handler Unit := do
  let e ← ask (arrayGet arr code j)
  write e
  advance 2

/-- The store of a primitive element, which cannot fail. -/
def storeElement (v : TypedValue) (arr : Handle) (j : Int) : Handler Unit := do
  ask (arraySet arr j v)
  advance 2

/-- The store of a reference, which the host may refuse. -/
def storeElementRef (h : Handle) (arr : Handle) (j : Int) : Handler Unit := do
  let r ← ask (arraySetRef arr j h)
  orHost r
  advance 2

section
variable {s : State} {a : Activation} {rest : List Activation} {q b i : Nat}

/-- A get is an access: it reads the element, writes it and advances. -/
theorem getElement_then (code : TypeCode) (b i : Nat) (write : Word64 → Handler Unit) :
    (getElement code b i >>= fun e => write e >>= fun _ => advance 2) = atElement b i (fetchElement code write) :=
  atElement_bind b i (fun arr j => ask (arrayGet arr code j)) _

theorem getElement32_eq (k : Code32) (q b i : Nat) : getElement32 k q b i =
    atElement b i (fetchElement (.w32 k) fun e => writeI32 q (widen k (e.setWidth 32))) :=
  getElement_then (.w32 k) b i fun e => writeI32 q (widen k (e.setWidth 32))
theorem getElement64_eq (q b i : Nat) : getElement64 q b i = atElement b i (fetchElement (.w64 .J) (writeI64 q)) :=
  getElement_then (.w64 .J) b i (writeI64 q)
theorem getElementRef_eq (q b i : Nat) : getElementRef q b i = atElement b i (fetchElement .L (writeRef q)) :=
  getElement_then .L b i (writeRef q)

/-- A put reads its value before anything else (R490). -/
theorem putElement32_run {v : Word32} (hs : s.stack = a :: rest) (hv : a.i32 q = .ok v) (k : Code32) :
    runTop (putElement32 k q b i) s = runTop (atElement b i (storeElement (.w32 k (narrow k v)))) s :=
  runTop_congr hs (handler_bind_ok (readI32_ok hv))
theorem putElement64_run {v : Word64} (hs : s.stack = a :: rest) (hv : a.i64 q = .ok v) :
    runTop (putElement64 q b i) s = runTop (atElement b i (storeElement (.w64 .J v))) s :=
  runTop_congr hs (handler_bind_ok (readI64_ok hv))
theorem putElementRef_run {v : Handle} (hs : s.stack = a :: rest) (hv : a.ref q = .ok v) :
    runTop (putElementRef q b i) s = runTop (atElement b i (storeElementRef v)) s :=
  runTop_congr hs (handler_bind_ok (readRef_ok hv))

end

section
variable {s : State} {a : Activation} {rest : List Activation} {b i : Nat} {arr e : Handle} {j len : Word32}
  {p q : Ports} {access : Handle → Int → Handler Unit}

theorem atElement_inside (hs : s.stack = a :: rest) (hb : a.ref b = .ok arr) (hi : a.i32 i = .ok j) (object : arr ≠ null)
    (length : arrayLength arr s.ports = (len, p)) (low : 0 ≤ j.toInt) (high : j.toInt < len.toNat) :
    runTop (atElement b i access) s = runTop (access arr j.toInt) { s with ports := p } :=
  runTop_goesOn hs <| (handler_bind_ok (readRef_ok hb)).trans <| (handler_bind_ok (readI32_ok hi)).trans <|
    handler_bind_ok (checkElement_inside object length low high)

theorem atElement_null (hs : s.stack = a :: rest) (hb : a.ref b = .ok arr) (hi : a.i32 i = .ok j) (isNull : arr = null)
    (made : throwNew (.nullPointer .array) s.ports = (e, p)) :
    runTop (atElement b i access) s = raises s a rest a.pc e p :=
  runTop_raises hs <| (handler_bind_ok (readRef_ok hb)).trans <| (handler_bind_ok (readI32_ok hi)).trans <|
    handler_bind_error (checkElement_null isNull made)

theorem atElement_outside (hs : s.stack = a :: rest) (hb : a.ref b = .ok arr) (hi : a.i32 i = .ok j) (object : arr ≠ null)
    (length : arrayLength arr s.ports = (len, p)) (out : j.toInt < 0 ∨ (len.toNat : Int) ≤ j.toInt)
    (made : throwNew (.arrayIndex len.toNat j.toInt) p = (e, q)) :
    runTop (atElement b i access) s = raises s a rest a.pc e q :=
  runTop_raises hs <| (handler_bind_ok (readRef_ok hb)).trans <| (handler_bind_ok (readI32_ok hi)).trans <|
    handler_bind_error (checkElement_outside object length out made)

end

/-- Settles O45: the fourteen are one form, a put's after its value has been read. -/
theorem elementChecks : Obligations.ElementChecks := by
  intro s a rest r b c arr e i p1 p2 hs hb hi checks
  have raised {q : Instr} {access : Handle → Int → Handler Unit}
      (runs : exec q s = runTop (atElement b.toNat c.toNat access) s) : checks q :=
    ⟨fun isNull made => runs.trans (atElement_null hs hb hi isNull made),
      fun _ object length out made => runs.trans (atElement_outside hs hb hi object length out made)⟩
  have raised32 (k : Code32) {q : Instr} (runs : exec q s = runTop (getElement32 k r.toNat b.toNat c.toNat) s) : checks q :=
    raised (runs.trans (congrArg (runTop · s) (getElement32_eq k _ _ _)))
  refine ⟨raised32 .I rfl, raised (congrArg (runTop · s) (getElement64_eq _ _ _)),
    raised (congrArg (runTop · s) (getElementRef_eq _ _ _)), raised32 .Z rfl, raised32 .B rfl, raised32 .C rfl,
    raised32 .S rfl, fun v hv => ?puts, fun v hv => raised (putElement64_run hs hv),
    fun v hv => raised (putElementRef_run hs hv)⟩
  exact ⟨raised (putElement32_run hs hv .I), raised (putElement32_run hs hv .Z), raised (putElement32_run hs hv .B),
    raised (putElement32_run hs hv .C), raised (putElement32_run hs hv .S)⟩

/-! ### The accesses (R482 to R497) -/

section
variable {s : State} {a : Activation} {rest : List Activation} {q : Nat} {arr : Handle} {j : Int} {p : Ports}

theorem fetchElement_becomesAt {code : TypeCode} {write : Word64 → Handler Unit} {w : Word64} {b : Activation}
    (hs : s.stack = a :: rest) (answer : arrayGet arr code j s.ports = (w, p))
    (written : ∀ c : Ctx, c.top = a → (write w >>= fun _ => advance 2) c = .ok () { c with top := b }) :
    runTop (fetchElement code write arr j) s = becomesAt s rest b p :=
  runTop_becomesAt hs <| (handler_bind_ok (ask_of_eq answer)).trans (written _ rfl)

theorem storeElement_becomesAt {v : TypedValue} (hs : s.stack = a :: rest) (answer : arraySet arr j v s.ports = ((), p)) :
    runTop (storeElement v arr j) s = becomesAt s rest { a with pc := a.pc + 2 } p :=
  runTop_becomesAt hs <| (handler_bind_ok (ask_of_eq answer)).trans (advance_run 2 _)

theorem storeElementRef_becomesAt {h : Handle} (hs : s.stack = a :: rest)
    (answer : arraySetRef arr j h s.ports = (.ok (), p)) :
    runTop (storeElementRef h arr j) s = becomesAt s rest { a with pc := a.pc + 2 } p :=
  runTop_becomesAt hs <| (ask_orHost_ok answer).trans (advance_run 2 _)

theorem storeElementRef_raises {h e : Handle} (hs : s.stack = a :: rest)
    (refused : arraySetRef arr j h s.ports = (.fails e, p)) :
    runTop (storeElementRef h arr j) s = raises s a rest a.pc e p := runTop_raises hs (ask_orHost_fails refused)

end

/-- Settles O44: past the checks each access is one transaction. -/
theorem arrayElements : Obligations.ArrayElements := by
  intro s a rest q b c arr i len p1 p2 hs hb hi object length low high stores
  have inside {access : Handle → Int → Handler Unit} : runTop (atElement b.toNat c.toNat access) s =
      runTop (access arr i.toInt) { s with ports := p1 } := atElement_inside hs hb hi object length low high
  have hs1 : State.stack { s with ports := p1 } = a :: rest := hs
  refine ⟨fun w hq => ?gets, fun v hv => ?puts, fun v hv answer => ?putWide, fun v hv => ⟨fun answer => ?putObject,
    fun e refused => ?putRefused⟩⟩
  case gets =>
    intro lowHalf
    have get32 (k : Code32) (answer : arrayGet arr (.w32 k) i.toInt p1 = (w, p2)) :
        runTop (getElement32 k q.toNat b.toNat c.toNat) s = becomesAt s rest (a.with32 q.toNat (widen k lowHalf) 2) p2 := by
      rw [getElement32_eq, inside]
      refine fetchElement_becomesAt hs1 answer fun c top => ?_
      rw [BitVec.setWidth_eq_extractLsb' (by decide), ← top]
      exact writeI32_advance _ 2 (top ▸ hq)
    refine ⟨get32 .I, get32 .Z, get32 .B, get32 .C, get32 .S, fun answer => ?object, fun hq answer => ?wide⟩
    case object =>
      refine (congrArg (runTop · s) (getElementRef_eq _ _ _)).trans (inside.trans ?_)
      exact fetchElement_becomesAt hs1 answer fun c top => top ▸ writeRef_advance w 2 (top ▸ hq)
    case wide =>
      refine (congrArg (runTop · s) (getElement64_eq _ _ _)).trans (inside.trans ?_)
      exact fetchElement_becomesAt hs1 answer fun c top => top ▸ writeI64_advance w 2 (top ▸ hq)
  case puts =>
    have put32 (k : Code32) (answer : arraySet arr i.toInt (.w32 k (narrow k v)) p1 = ((), p2)) :
        runTop (putElement32 k q.toNat b.toNat c.toNat) s = becomesAt s rest { a with pc := a.pc + 2 } p2 :=
      (putElement32_run hs hv k).trans (inside.trans (storeElement_becomesAt hs1 answer))
    exact ⟨put32 .I, put32 .Z, put32 .B, put32 .C, put32 .S⟩
  case putWide => exact (putElement64_run hs hv).trans (inside.trans (storeElement_becomesAt hs1 answer))
  case putObject => exact (putElementRef_run hs hv).trans (inside.trans (storeElementRef_becomesAt hs1 answer))
  case putRefused => exact (putElementRef_run hs hv).trans (inside.trans (storeElementRef_raises hs1 refused))

end Sys2Proof.Machine
end

section
/-! Fields (spec/45_object_array_field.md R498 to R529): the code of the answered value chooses the register path of a get,
the instruction's own code the view of a put. -/

namespace Sys2Proof.Machine

section
variable {c : Ctx} {p : Ports} {v : TypedValue} {d x r b : Nat} {inst e : Handle} {code : TypeCode}

/-- `writeField` (R498): each code has its own register path. -/
theorem writeField_advance (hd : d + v.code.width ≤ c.top.regs.length) :
    (writeField d v >>= fun _ => advance 2) c = .ok () { c with top := c.top.withTyped d v 2 } := by
  cases v with
  | w32 k bits =>
    cases k with
    | F => exact writeF32_advance bits 2 hd
    | I | Z | B | S | C => exact writeI32_advance _ 2 hd
  | w64 k bits => exact writeI64_advance bits 2 hd
  | ref h => exact writeRef_advance h 2 hd

theorem getField_ok (answer : resolveField x inst c.ports = (.ok v, p)) (hd : d + v.code.width ≤ c.top.regs.length) :
    getField d x inst c = .ok () { c with top := c.top.withTyped d v 2, ports := p } := by
  refine (ask_orResolution_ok answer).trans ?_
  exact writeField_advance hd

theorem getField_fails (failed : resolveField x inst c.ports = (.fails e, p)) :
    getField d x inst c = .error (.raised e) { c with ports := p } := ask_orResolution_fails failed

theorem putField_ok (answer : resolveSetField x inst v c.ports = (.ok (), p)) :
    putField x inst v c = .ok () { c with top := c.top.advance 2, ports := p } :=
  (ask_orResolution_ok answer).trans (advance_run 2 _)

theorem putField_fails (failed : resolveSetField x inst v c.ports = (.fails e, p)) :
    putField x inst v c = .error (.raised e) { c with ports := p } := ask_orResolution_fails failed

theorem readTyped_ok (hv : c.top.typed code r = .ok v) : readTyped code r c = .ok v c :=
  (congrArg (checked · c) hv).trans (checked_ok v c)

theorem getInstanceField_object (hb : c.top.ref b = .ok inst) (object : inst ≠ null) :
    getInstanceField d b x c = getField d x inst c :=
  (handler_bind_ok (readRef_ok hb)).trans (handler_bind_ok (requireNonNull_object object))

/-- The null check precedes resolution (R498). -/
theorem getInstanceField_null (hb : c.top.ref b = .ok inst) (isNull : inst = null)
    (made : throwNew (.nullPointer .object) c.ports = (e, p)) :
    getInstanceField d b x c = .error (.raised e) { c with ports := p } :=
  (handler_bind_ok (readRef_ok hb)).trans (handler_bind_error (requireNonNull_null isNull made))

theorem putInstanceField_object (hv : c.top.typed code r = .ok v) (hb : c.top.ref b = .ok inst) (object : inst ≠ null) :
    putInstanceField code r b x c = putField x inst v c :=
  (handler_bind_ok (readTyped_ok hv)).trans <| (handler_bind_ok (readRef_ok hb)).trans <|
    handler_bind_ok (requireNonNull_object object)

theorem putInstanceField_null (hv : c.top.typed code r = .ok v) (hb : c.top.ref b = .ok inst) (isNull : inst = null)
    (made : throwNew (.nullPointer .object) c.ports = (e, p)) :
    putInstanceField code r b x c = .error (.raised e) { c with ports := p } :=
  (handler_bind_ok (readTyped_ok hv)).trans <| (handler_bind_ok (readRef_ok hb)).trans <|
    handler_bind_error (requireNonNull_null isNull made)

theorem putStaticField_run (hv : c.top.typed code r = .ok v) : putStaticField code r x c = putField x null v c :=
  handler_bind_ok (readTyped_ok hv)

end

/-- Settles O46: the seven opcodes of a form run one handler. -/
theorem fieldGets : Obligations.FieldGets := by
  intro s a rest v e p hs
  refine ⟨fun d b x obj hb i hi => ?instanceField, fun d x i hi => ?staticField⟩
  case instanceField =>
    have runs : exec i s = runTop (getInstanceField d.toNat b.toNat x.toNat) s := by
      revert i
      simp only [List.forall_mem_cons]
      exact ⟨rfl, rfl, rfl, rfl, rfl, rfl, rfl, List.forall_mem_nil _⟩
    rw [runs]
    exact ⟨fun object answer hd => runTop_becomesAt hs ((getInstanceField_object hb object).trans (getField_ok answer hd)),
      fun object failed => runTop_raises hs ((getInstanceField_object hb object).trans (getField_fails failed)),
      fun isNull made => runTop_raises hs (getInstanceField_null hb isNull made)⟩
  case staticField =>
    have runs : exec i s = runTop (getField d.toNat x.toNat null) s := by
      revert i
      simp only [List.forall_mem_cons]
      exact ⟨rfl, rfl, rfl, rfl, rfl, rfl, rfl, List.forall_mem_nil _⟩
    rw [runs]
    exact ⟨fun answer hd => runTop_becomesAt hs (getField_ok answer hd),
      fun failed => runTop_raises hs (getField_fails failed)⟩

/-- Settles O47: the seven opcodes of a form run one handler, each with its code. -/
theorem fieldPuts : Obligations.FieldPuts := by
  intro s a rest v e p hs
  refine ⟨fun r b x obj hb q hq hv => ?instanceField, fun r x q hq hv => ?staticField⟩
  case instanceField =>
    have runs : exec q.1 s = runTop (putInstanceField q.2 r.toNat b.toNat x.toNat) s := by
      clear hv
      revert q
      simp only [List.forall_mem_cons]
      exact ⟨rfl, rfl, rfl, rfl, rfl, rfl, rfl, List.forall_mem_nil _⟩
    rw [runs]
    exact ⟨fun object answer => runTop_becomesAt hs ((putInstanceField_object hv hb object).trans (putField_ok answer)),
      fun object failed => runTop_raises hs ((putInstanceField_object hv hb object).trans (putField_fails failed)),
      fun isNull made => runTop_raises hs (putInstanceField_null hv hb isNull made)⟩
  case staticField =>
    have runs : exec q.1 s = runTop (putStaticField q.2 r.toNat x.toNat) s := by
      clear hv
      revert q
      simp only [List.forall_mem_cons]
      exact ⟨rfl, rfl, rfl, rfl, rfl, rfl, rfl, List.forall_mem_nil _⟩
    rw [runs]
    exact ⟨fun answer => runTop_becomesAt hs ((putStaticField_run hv).trans (putField_ok answer)),
      fun failed => runTop_raises hs ((putStaticField_run hv).trans (putField_fails failed))⟩

end Sys2Proof.Machine
end

section
/-! Filled arrays (spec/45_object_array_field.md R478 to R481): the element registers are read and checked as the element kind
says, then the array is allocated and stored into. -/

namespace Sys2Proof.Machine

/-! ### The element registers (R478, R479) -/

section
variable {f : EngineFault}

/-- Of a read of several registers the checks keep the faults. -/
theorem checked_cons_forget {α : Type} (x : Checked α) (xs : Checked (List α)) :
    ((x.map fun _ => ()) >>= fun _ => xs.map fun _ => ()) =
      (x >>= fun v => xs >>= fun vs => Except.ok (v :: vs)).map fun _ => () := by
  cases x with
  | error f => rfl
  | ok v => exact checked_map_forget xs (v :: ·)

theorem checkAll_i32_eq (a : Activation) (regs : List Nat) : a.checkAll (regs.map .i32) = (a.i32s regs).map fun _ => () := by
  induction regs with
  | nil => rfl
  | cons r rs ih =>
    rw [List.map_cons, Activation.checkAll, ih]
    exact checked_cons_forget (a.i32 r) (a.i32s rs)

theorem checkAll_ref_eq (a : Activation) (regs : List Nat) : a.checkAll (regs.map .ref) = (a.refs regs).map fun _ => () := by
  induction regs with
  | nil => rfl
  | cons r rs ih =>
    rw [List.map_cons, Activation.checkAll, ih]
    exact checked_cons_forget (a.ref r) (a.refs rs)

theorem error_of_forget {α : Type} {x : Checked α} (h : (x.map fun _ => ()) = .error f) : x = .error f := by
  cases x with
  | error g => exact congrArg Except.error (Except.error.inj h)
  | ok v => cases h

end

section
variable {c : Ctx} {k : ElemKind} {regs : List Nat} {values : RegionValues} {f : EngineFault}

theorem mapped_ok {α β : Type} {x : Checked α} {v : α} (g : α → β) (h : x = .ok v) :
    checked (x.map g) c = .ok (g v) c := by
  rw [h]
  exact checked_ok (g v) c

theorem mapped_error {α β : Type} {x : Checked α} (g : α → β) (h : x = .error f) :
    checked (x.map g) c = .error (.faulted f) c := by
  rw [h]
  exact checked_error f c

theorem readFilled_ok (held : k = .code (.w32 .I) ∧ (∃ vs, c.top.i32s regs = .ok vs ∧ values = .ints vs) ∨
    (k = .code .L ∨ k = .array) ∧ (∃ hs, c.top.refs regs = .ok hs ∧ values = .refs k hs)) :
    readFilled k regs c = .ok values c := by
  rw [readFilled, handler_bind_ok (getTop_run c)]
  rcases held with ⟨rfl, vs, read, rfl⟩ | ⟨rfl | rfl, hs, read, rfl⟩
  · exact mapped_ok _ read
  · exact mapped_ok _ read
  · exact mapped_ok _ read

theorem readFilled_faults (bad : k = .code (.w32 .I) ∧ c.top.checkAll (regs.map .i32) = .error f ∨
    (k = .code .L ∨ k = .array) ∧ c.top.checkAll (regs.map .ref) = .error f) :
    readFilled k regs c = .error (.faulted f) c := by
  rw [checkAll_i32_eq, checkAll_ref_eq] at bad
  rw [readFilled, handler_bind_ok (getTop_run c)]
  rcases bad with ⟨rfl, read⟩ | ⟨rfl | rfl, read⟩
  · exact mapped_error _ (error_of_forget read)
  · exact mapped_error _ (error_of_forget read)
  · exact mapped_error _ (error_of_forget read)

/-- X6 for every other element kind (R479). -/
theorem readFilled_otherKind (int : k ≠ .code (.w32 .I)) (object : k ≠ .code .L) (array : k ≠ .array) :
    readFilled k regs c = raise (.new (.internalError k)) c := by
  rw [readFilled, handler_bind_ok (getTop_run c)]
  split
  · exact absurd rfl int
  · exact absurd rfl object
  · exact absurd rfl array
  · rfl

end

/-! ### The array (R478) -/

/-- What a filled-new-array does with its values: allocate, store, and leave the array in RV. -/
def fillNew (idx n : Nat) (values : RegionValues) : Handler Unit := do
  let r ← ask (allocArray n idx)
  let arr ← orResolution r
  let stored ← ask (arraySetRegion arr 0 n values)
  orHost stored
  let a ← getTop
  setTop ((a.putResult (.value (.ref arr))).advance 3)

section
variable {s : State} {a : Activation} {rest : List Activation} {idx n : Nat} {k : ElemKind} {regs : List Nat}
  {values : RegionValues} {arr e : Handle} {p q r : Ports} {f : EngineFault}

/-- The element kind is asked for before the registers are read. -/
theorem filledArray_kind (hs : s.stack = a :: rest) (kind : arrayElementType idx s.ports = (k, p)) :
    runTop (filledArray idx regs) s =
      runTop (readFilled k regs >>= fillNew idx regs.length) { s with ports := p } :=
  runTop_goesOn hs (handler_bind_ok (ask_of_eq kind))

theorem fillNew_becomesAt (hs : s.stack = a :: rest) (made : allocArray n idx s.ports = (.ok arr, p))
    (stored : arraySetRegion arr 0 n values p = (.ok (), q)) :
    runTop (fillNew idx n values) s = becomesAt s rest { a with rv := arr, rvw := true, pc := a.pc + 3 } q := by
  refine runTop_becomesAt hs ?_
  refine (ask_orResolution_ok made).trans ?_
  exact (ask_orHost_ok stored).trans (handler_bind_ok (getTop_run _))

theorem fillNew_refused (hs : s.stack = a :: rest) (made : allocArray n idx s.ports = (.ok arr, p))
    (refused : arraySetRegion arr 0 n values p = (.fails e, q)) :
    runTop (fillNew idx n values) s = raises s a rest a.pc e q := by
  refine runTop_raises hs ?_
  refine (ask_orResolution_ok made).trans ?_
  exact ask_orHost_fails refused

theorem fillNew_fails (hs : s.stack = a :: rest) (failed : allocArray n idx s.ports = (.fails e, p)) :
    runTop (fillNew idx n values) s = raises s a rest a.pc e p := runTop_raises hs (ask_orResolution_fails failed)

/-- The packed form with at most five registers is the general one (R480). -/
theorem filledPacked_run {count c d x y g : BitVec 4} (hs : s.stack = a :: rest) (few : count.toNat ≤ 5) :
    runTop (filledPacked count idx c d x y g) s = runTop (filledArray idx (packedRegs count c d x y g)) s :=
  runTop_congr hs <| handler_bind_ok <|
    (handler_bind_ok (getTop_run (.enter s a rest))).trans (congrFun (if_neg (by omega)) _)

theorem filledPacked_malformed {count c d x y g : BitVec 4} (hs : s.stack = a :: rest) (many : 5 < count.toNat) :
    runTop (filledPacked count idx c d x y g) s = faults s (.malformed a.pc) :=
  runTop_faultsAt (p := s.ports) hs <| handler_bind_error <|
    (handler_bind_ok (getTop_run (.enter s a rest))).trans (congrFun (if_pos many) _)

end

/-- Settles O42: both forms are one handler on their list of registers. -/
theorem filledNewArray : Obligations.FilledNewArray := by
  intro s a rest t k e arr p1 p2 p3 values hs kind forms
  have fills {i : Instr} {regs : List Nat} (runs : exec i s = runTop (filledArray t.toNat regs) s) : forms i regs := by
    have hs1 : State.stack { s with ports := p1 } = a :: rest := hs
    have asked := runs.trans (filledArray_kind hs kind)
    refine ⟨fun held => ?completes, fun f bad => ?faults, fun int object array made => ?otherKind⟩
    case completes =>
      have filling : exec i s = runTop (fillNew t.toNat regs.length values) { s with ports := p1 } :=
        asked.trans (runTop_congr hs1 (handler_bind_ok (readFilled_ok held)))
      exact ⟨fun made => ⟨fun stored => filling.trans (fillNew_becomesAt hs1 made stored),
          fun refused => filling.trans (fillNew_refused hs1 made refused)⟩,
        fun failed => filling.trans (fillNew_fails hs1 failed)⟩
    case faults =>
      exact asked.trans (runTop_faultsAt hs1 (handler_bind_error (readFilled_faults bad)))
    case otherKind =>
      exact asked.trans <| runTop_raises hs1 <| handler_bind_error <|
        (readFilled_otherKind int object array).trans (raise_new_of_eq made)
  exact ⟨fun _ _ _ _ _ _ few => fills (filledPacked_run hs few), fun _ _ => fills rfl,
    fun _ _ _ _ _ _ many => filledPacked_malformed hs many⟩

end Sys2Proof.Machine
end

section
/-! fill-array-data (spec/45_object_array_field.md R476, R477): the header and the elements of its table, by how far they
stand in the stream. -/

namespace Sys2Proof.Machine

/-! ### The elements of a table (R91, R476) -/

/-- The first element that does not lie in the stream gives the F3, with its byte offset. -/
theorem Method.elements_past {m : Method} {width n k : Nat} {b : Int} (start : 0 ≤ b) (pos : 0 < width) (hk : k < n)
    (inside : b + k * width ≤ 2 * m.len) (past : 2 * (m.len : Int) < b + (k + 1) * width) :
    m.elements width b n = .error (.pcRange (b + k * width)) := by
  induction k generalizing b n with
  | zero =>
    obtain ⟨n, rfl⟩ := Nat.exists_eq_add_one.2 hk
    simp only [Nat.cast_zero, zero_mul, zero_add, one_mul, add_zero] at past ⊢
    rw [Method.elements, Method.memRead_of_outside pos (.inr past)]
    rfl
  | succ k ih =>
    obtain ⟨n, rfl⟩ := Nat.exists_eq_add_one.2 (Nat.zero_lt_of_lt hk)
    have step : b + ((k + 1 : Nat) : Int) * width = b + width + k * width := by push_cast; ring
    have next : b + (((k + 1 : Nat) : Int) + 1) * width = b + width + (k + 1) * width := by push_cast; ring
    rw [step] at inside ⊢
    rw [next] at past
    have first : m.memRead b width = .ok (m.code.little b.toNat width) := if_pos <| .inr
      ⟨start, (le_add_of_nonneg_right (by positivity)).trans inside⟩
    rw [Method.elements, first, ih (by omega) (Nat.lt_of_succ_lt_succ hk) inside past]
    rfl

/-! ### The header (R476) -/

/-- Whether a table is no longer than the array, its elements, and their store (R477). -/
def fillCounted (a : Activation) (arr : Handle) (t : Int) (width : Nat) (count len : Word32) : Handler Unit :=
  if len.toNat < count.toNat then raise (.new (.arrayIndex len.toNat count.toNat))
  else do
    let elements ← checked (a.method.elements width (2 * (t + 4)) count.toNat)
    let r ← ask (arraySetRegion arr 0 count.toNat (.raw width elements))
    orHost r
    advance 3

/-- What fill-array-data does with the width of its table. -/
def fillSized (a : Activation) (arr : Handle) (t : Int) (width : CodeUnit) : Handler Unit :=
  if width.toNat = 1 ∨ width.toNat = 2 ∨ width.toNat = 4 ∨ width.toNat = 8 then do
    let count ← readUnit32 (t + 2)
    let len ← ask (arrayLength arr)
    fillCounted a arr t width.toNat count len
  else faultWith (.badTable t)

/-- What fill-array-data does with its table. -/
def fillTable (a : Activation) (arr : Handle) (t : Int) : Handler Unit := do
  checkMagic 0x0300#16 t
  let width ← readUnit (t + 1)
  fillSized a arr t width

section
variable {s : State} {a : Activation} {rest : List Activation} {src : Nat} {off : Word32} {arr e : Handle} {p : Ports}

theorem fillFromTable_null (hs : s.stack = a :: rest) (hr : a.ref src = .ok arr) (isNull : arr = null)
    (made : throwNew (.nullPointer .array) s.ports = (e, p)) :
    runTop (fillFromTable src off) s = raises s a rest a.pc e p :=
  runTop_raises hs <| (handler_bind_ok (readRef_ok hr)).trans (handler_bind_error (requireNonNull_null isNull made))

theorem fillFromTable_run (hs : s.stack = a :: rest) (hr : a.ref src = .ok arr) (object : arr ≠ null) :
    runTop (fillFromTable src off) s = runTop (fillTable a arr (a.pc + off.toInt)) s :=
  runTop_congr hs <| (handler_bind_ok (readRef_ok hr)).trans <| (handler_bind_ok (requireNonNull_object object)).trans <|
    handler_bind_ok (getTop_run (.enter s a rest))

end

section
variable {s : State} {a : Activation} {rest : List Activation} {arr e : Handle} {t : Int} {width : CodeUnit}
  {count len : Word32} {p : Ports}

theorem fillTable_outside (hs : s.stack = a :: rest) (outside : t < 0 ∨ (a.method.len : Int) ≤ t) :
    runTop (fillTable a arr t) s = faults s (.pcRange t) :=
  runTop_faultsAt (p := s.ports) hs <| handler_bind_error (checkMagic_outside (c := .enter s a rest) outside)

theorem fillTable_badMagic {u : CodeUnit} (hs : s.stack = a :: rest) (first : a.method.unit t = .ok u)
    (other : u ≠ 0x0300#16) : runTop (fillTable a arr t) s = faults s (.badMagic t u) :=
  runTop_faultsAt (p := s.ports) hs <| handler_bind_error (checkMagic_bad (c := .enter s a rest) first other)

theorem fillTable_noWidth (hs : s.stack = a :: rest) (magic : a.method.unit t = .ok 0x0300#16)
    (past : (a.method.len : Int) ≤ t + 1) : runTop (fillTable a arr t) s = faults s (.pcRange (t + 1)) :=
  runTop_faultsAt (p := s.ports) hs <| (handler_bind_ok (checkMagic_ok (c := .enter s a rest) magic)).trans <|
    handler_bind_error (readUnit_outside (c := .enter s a rest) (.inr past))

theorem fillTable_sized (hs : s.stack = a :: rest) (magic : a.method.unit t = .ok 0x0300#16)
    (sized : a.method.unit (t + 1) = .ok width) : runTop (fillTable a arr t) s = runTop (fillSized a arr t width) s :=
  runTop_congr hs <| (handler_bind_ok (checkMagic_ok (c := .enter s a rest) magic)).trans <|
    handler_bind_ok (readUnit_ok (c := .enter s a rest) sized)

theorem width_mem_iff {n : Nat} : n ∈ [1, 2, 4, 8] ↔ n = 1 ∨ n = 2 ∨ n = 4 ∨ n = 8 := by simp

theorem fillSized_badWidth (hs : s.stack = a :: rest) (bad : width.toNat ∉ [1, 2, 4, 8]) :
    runTop (fillSized a arr t width) s = faults s (.badTable t) :=
  runTop_faultsAt (p := s.ports) hs (congrFun (if_neg (mt width_mem_iff.2 bad)) _)

theorem fillSized_noCount (hs : s.stack = a :: rest) (wide : width.toNat ∈ [1, 2, 4, 8])
    (past : (a.method.len : Int) ≤ t + 2 + 1) :
    runTop (fillSized a arr t width) s = faults s (.pcRange (t + 2 + 1)) :=
  runTop_faultsAt (p := s.ports) hs <| (congrFun (if_pos (width_mem_iff.1 wide)) _).trans <|
    handler_bind_error (readUnit32_past (c := .enter s a rest) past)

theorem fillSized_counted (hs : s.stack = a :: rest) (wide : width.toNat ∈ [1, 2, 4, 8])
    (counted : a.method.unit32 (t + 2) = .ok count) (length : arrayLength arr s.ports = (len, p)) :
    runTop (fillSized a arr t width) s = runTop (fillCounted a arr t width.toNat count len) { s with ports := p } :=
  runTop_goesOn hs <| (congrFun (if_pos (width_mem_iff.1 wide)) _).trans <|
    (handler_bind_ok (readUnit32_ok (c := .enter s a rest) counted)).trans (handler_bind_ok (ask_of_eq length))

end

section
variable {s : State} {a : Activation} {rest : List Activation} {arr e : Handle} {t : Int} {width : Nat}
  {count len : Word32} {p : Ports} {es : List Word64}

theorem fillCounted_long (hs : s.stack = a :: rest) (long : len.toNat < count.toNat)
    (made : throwNew (.arrayIndex len.toNat count.toNat) s.ports = (e, p)) :
    runTop (fillCounted a arr t width count len) s = raises s a rest a.pc e p :=
  runTop_raises hs <| (congrFun (if_pos long) _).trans (raise_new_of_eq made)

theorem fillCounted_faults {f : EngineFault} (hs : s.stack = a :: rest) (fits : count.toNat ≤ len.toNat)
    (bad : a.method.elements width (2 * (t + 4)) count.toNat = .error f) :
    runTop (fillCounted a arr t width count len) s = faults s f := by
  rw [fillCounted, if_neg (Nat.not_lt.2 fits), bad]
  exact runTop_faultsAt (p := s.ports) hs (handler_bind_error (checked_error f _))

theorem fillCounted_becomesAt (hs : s.stack = a :: rest) (fits : count.toNat ≤ len.toNat)
    (read : a.method.elements width (2 * (t + 4)) count.toNat = .ok es)
    (stored : arraySetRegion arr 0 count.toNat (.raw width es) s.ports = (.ok (), p)) :
    runTop (fillCounted a arr t width count len) s = becomesAt s rest { a with pc := a.pc + 3 } p := by
  rw [fillCounted, if_neg (Nat.not_lt.2 fits), read]
  exact runTop_becomesAt hs <| (handler_bind_ok (checked_ok es (.enter s a rest))).trans <|
    (ask_orHost_ok stored).trans (advance_run 3 _)

theorem fillCounted_refused (hs : s.stack = a :: rest) (fits : count.toNat ≤ len.toNat)
    (read : a.method.elements width (2 * (t + 4)) count.toNat = .ok es)
    (refused : arraySetRegion arr 0 count.toNat (.raw width es) s.ports = (.fails e, p)) :
    runTop (fillCounted a arr t width count len) s = raises s a rest a.pc e p := by
  rw [fillCounted, if_neg (Nat.not_lt.2 fits), read]
  exact runTop_raises hs <| (handler_bind_ok (checked_ok es (.enter s a rest))).trans (ask_orHost_fails refused)

end

/-- Settles O43: by how far the table is read, header, count and elements in turn. -/
theorem fillArrayData : Obligations.FillArrayData := by
  intro s a rest r o arr e p1 p2 hs hr t length leaves
  have table (object : arr ≠ null) : exec (.fillArrayData r o) s = runTop (fillTable a arr t) s :=
    fillFromTable_run hs hr object
  refine ⟨fillFromTable_null hs hr, fun object outside => (table object).trans (fillTable_outside hs outside),
    fun u object first other => (table object).trans (fillTable_badMagic hs first other),
    fun object magic past => (table object).trans (fillTable_noWidth hs magic past),
    fun width object magic sized => ?withWidth⟩
  have onWidth := (table object).trans (fillTable_sized hs magic sized)
  refine ⟨fun bad => onWidth.trans (fillSized_badWidth hs bad), fun wide past => ?noCount,
    fun count len wide counted asked => ?withCount⟩
  case noCount =>
    have high : t + 2 + 1 = t + 3 := by omega
    exact ⟨t + 3, by simp, past, high ▸ onWidth.trans (fillSized_noCount hs wide (high ▸ past))⟩
  case withCount =>
    have hs1 : State.stack { s with ports := p1 } = a :: rest := hs
    have onCount := onWidth.trans (fillSized_counted hs wide counted asked)
    refine ⟨fun long made => onCount.trans (fillCounted_long hs1 long made), fun k fits hk inside past => ?badElement,
      fun es fits read => ⟨fun stored => onCount.trans (fillCounted_becomesAt hs1 fits read stored),
        fun refused => onCount.trans (fillCounted_refused hs1 fits read refused)⟩⟩
    have start := Method.unit_ok_bounds magic
    have pos : 0 < width.toNat := Nat.pos_of_ne_zero fun zero => absurd (zero ▸ wide) (by decide)
    exact onCount.trans <| fillCounted_faults hs1 fits <| Method.elements_past (by omega) pos hk inside past

end Sys2Proof.Machine
end

section
/-! Method invocation (spec/46_invoke.md): the decode that every invoke begins with, by how far it gets (R551 to R560), the two
back ends (R562, R563), and the delivery of a result (R564, R566). -/

namespace Sys2Proof.Machine

/-! ### The result of a call (R564, R566, R572) -/

section
variable {a : Activation} {r : ReturnValue}

theorem Activation.takeResult_eq {w : Word64} {written : Bool} (word : (a.putResult r).rv = w)
    (bit : (a.putResult r).rvw = written) :
    a.takeResult r = { a with st := .run, inv := .idle, pc := a.pc + 3, rv := w, rvw := written } := by
  subst word bit
  cases r <;> rfl

/-- ST and INV are overwritten by the result, so an invoke's own settings of them do not show. -/
theorem Activation.takeResult_staged (st : Status) (inv : Inv) :
    Activation.takeResult { a with st := st, inv := inv } r = a.takeResult r := by
  cases r <;> rfl

theorem Activation.putResult_rvw (a : Activation) (r : ReturnValue) : (a.putResult r).rvw = decide (r ≠ .void) := by
  cases r <;> rfl

end

/-- The bits of a 32-bit answer are the low half of the word (R564). -/
theorem hostResult_w32 (k : Code32) (bits : Word64) :
    hostResult (some (.w32 k)) bits = .value (.w32 k (bits.extractLsb' 0 32)) := by
  rw [hostResult, BitVec.setWidth_eq_extractLsb' (by decide)]

/-- RVW is set unless the method is void. -/
theorem putResult_hostResult_rvw (a : Activation) (ret : Option TypeCode) (bits : Word64) :
    (a.putResult (hostResult ret bits)).rvw = ret.isSome := by
  rcases ret with _ | _ | _ | _ <;> rfl

/-- Settles O51: the caller takes the result as it takes a host call's. -/
theorem returnDelivery : Obligations.ReturnDelivery := by
  intro s a rest hf hs st b below call hrest waits
  subst hrest
  have delivered : step s = becomes s below (b.takeResult a.ret) :=
    (step_finished hf hs st).trans (deliver_nested (awaitsCallee_of_inv waits))
  refine delivered.trans (congrArg (becomes s below) (Activation.takeResult_eq ?word (b.putResult_rvw a.ret)))
  case word =>
    cases a.ret with
    | void => rfl
    | value v =>
      cases v with
      | w32 k bits => cases k <;> rfl
      | w64 k bits => rfl
      | ref h => rfl

/-! ### The instructions (R573 to R582) -/

theorem exec_invokePackedInstr (kind : InvokeKind) (n c d e f g : BitVec 4) (x : BitVec 16) (s : State) :
    exec (invokePackedInstr kind n x c d e f g) s = runTop (invokePacked kind n x.toNat c d e f g) s := by
  cases kind <;> rfl

theorem exec_invokeRangeInstr (kind : InvokeKind) (n : BitVec 8) (x first : BitVec 16) (s : State) :
    exec (invokeRangeInstr kind n x first) s = runTop (invoke kind .range x.toNat (rangeRegs n first)) s := by
  cases kind <;> rfl

section
variable {s : State} {a : Activation} {rest : List Activation} {kind : InvokeKind}

theorem checkCount_few {count : BitVec 4} {c : Ctx} (few : count.toNat ≤ 5) : checkCount count c = .ok () c :=
  (handler_bind_ok (getTop_run c)).trans (congrFun (if_neg (Nat.not_lt.2 few)) c)

theorem checkCount_many {count : BitVec 4} {c : Ctx} (many : 5 < count.toNat) :
    checkCount count c = .error (.faulted (.malformed c.top.pc)) c :=
  (handler_bind_ok (getTop_run c)).trans (congrFun (if_pos many) c)

/-- The ten instructions run one handler, which gets the list of argument registers (R551, R554, R555). -/
theorem IsInvoke.exec_eq {i : Instr} {form : ArgForm} {idx : Nat} {regs : List Nat} (invokes : IsInvoke i kind form idx regs)
    (hs : s.stack = a :: rest) : exec i s = runTop (invoke kind form idx regs) s := by
  cases invokes with
  | packed _ n x c d e f g few =>
    exact (exec_invokePackedInstr kind n c d e f g x s).trans (runTop_congr hs (handler_bind_ok (checkCount_few few)))
  | range _ n x first => exact exec_invokeRangeInstr kind n x first s

/-- A fault leaves its activation as it was, INV as an invoke has set it included, but for the cursor (R611). -/
theorem runTop_faultsAt_of_pc {h : Handler Unit} {f : EngineFault} {c : Ctx} (hs : s.stack = a :: rest)
    (hc : h (Ctx.enter s a rest) = .error (.faulted f) c) (pc : c.top.pc = a.pc) :
    runTop h s = faultsAt s f c.ports := by
  rw [runTop_faulted hs hc, pc]
  cases s
  cases hs
  rfl

end

section
variable {s : State} {a : Activation} {rest : List Activation} {i : Instr} {kind : InvokeKind} {form : ArgForm} {idx : Nat}
  {regs : List Nat} {c : Ctx}

/-- A raise leaves the same, whatever an invoke has set ST and INV to on its way (R602). -/
theorem IsInvoke.exec_raises {e : Handle} (invokes : IsInvoke i kind form idx regs) (hs : s.stack = a :: rest)
    (hc : invoke kind form idx regs (Ctx.enter s a rest) = .error (.raised e) c) (pc : c.top.pc = a.pc) :
    exec i s = raises s a rest a.pc e c.ports := by
  rw [invokes.exec_eq hs, runTop_raised hs hc, pc]
  rfl

theorem IsInvoke.exec_faultsAt {f : EngineFault} (invokes : IsInvoke i kind form idx regs) (hs : s.stack = a :: rest)
    (hc : invoke kind form idx regs (Ctx.enter s a rest) = .error (.faulted f) c) (pc : c.top.pc = a.pc) :
    exec i s = faultsAt s f c.ports := (invokes.exec_eq hs).trans (runTop_faultsAt_of_pc hs hc pc)

end

/-! ### The decode, in the order of its checks (R551 to R560) -/

/-- What an invoke comes to when its target and arguments are known: one of the two back ends (R561). -/
def makeCall (pc0 need : Nat) (call : StagedCall) (recv : Option Handle) (sh : Shorty) : Handler Unit := do
  let nested ← ask (isInterpretable call.target)
  if nested then callNested pc0 need call sh else callHost call recv sh

/-- What an invoke of the activation `a` does once it has its receiver. -/
def invokeOn (kind : InvokeKind) (form : ArgForm) (regs : List Nat) (a : Activation) (m : Handle) (sh : Shorty)
    (recv : Option Handle) : Handler Unit := do
  let target ← chooseTarget kind m recv
  let params ← checked (a.params sh.params (regs.drop (receiverWords kind)))
  makeCall a.pc (receiverWords kind + paramWords sh.params)
    { kind := kind, form := form, target := target, args := receiverArg recv ++ params, ret := sh.ret } recv sh

/-- What an invoke of the activation `a` does once its method has resolved to `m`, of shorty `sh`. -/
def invokeMethod (kind : InvokeKind) (form : ArgForm) (regs : List Nat) (a : Activation) (m : Handle) (sh : Shorty) :
    Handler Unit :=
  if receiverWords kind + paramWords sh.params ≠ regs.length then faultWith (.paramMismatch a.pc)
  else readReceiver kind regs >>= invokeOn kind form regs a m sh

/-- A context in which an invoke decodes its arguments. -/
def Ctx.decoding (c : Ctx) (kind : InvokeKind) (form : ArgForm) (p : Ports) : Ctx :=
  { c with top := { c.top with inv := .decodingArgs kind form }, ports := p }

theorem receiverWords_eq (kind : InvokeKind) : receiverWords kind = if kind = .static then 0 else 1 := by
  cases kind <;> rfl

theorem receiverArg_eq (recv : Option Handle) : receiverArg recv = recv.toList.map TypedValue.ref := by
  cases recv <;> rfl

section
variable {c : Ctx} {kind : InvokeKind} {form : ArgForm} {idx : Nat} {regs : List Nat} {m e : Handle} {sh : Shorty}
  {p q : Ports}

/-- X7 before anything is read. -/
theorem invoke_unresolved (failed : resolveMethod idx (decide (kind = .static)) c.ports = (.fails e, p)) :
    invoke kind form idx regs c = .error (.raised e) (c.decoding kind form p) :=
  (handler_bind_ok (getTop_run c)).trans <| (handler_bind_ok (setTop_run _ c)).trans <|
    ask_orResolution_fails (c := c.decoding kind form c.ports) failed

theorem invoke_resolved (resolved : resolveMethod idx (decide (kind = .static)) c.ports = (.ok m, p))
    (described : shortyOf m p = (sh, q)) :
    invoke kind form idx regs c = invokeMethod kind form regs c.top m sh (c.decoding kind form q) :=
  (handler_bind_ok (getTop_run c)).trans <| (handler_bind_ok (setTop_run _ c)).trans <|
    (ask_orResolution_ok (c := c.decoding kind form c.ports) resolved).trans <|
    handler_bind_ok (ask_of_eq (c := c.decoding kind form p) described)

end

section
variable {c : Ctx} {kind : InvokeKind} {form : ArgForm} {regs : List Nat} {a : Activation} {m : Handle} {sh : Shorty}

theorem invokeMethod_mismatch (other : receiverWords kind + paramWords sh.params ≠ regs.length) :
    invokeMethod kind form regs a m sh c = .error (.faulted (.paramMismatch a.pc)) c := congrFun (if_pos other) c

theorem invokeMethod_matched (words : receiverWords kind + paramWords sh.params = regs.length) :
    invokeMethod kind form regs a m sh c = (readReceiver kind regs >>= invokeOn kind form regs a m sh) c :=
  congrFun (if_neg (not_not.2 words)) c

end

/-! #### The receiver (R553) -/

section
variable {c : Ctx} {kind : InvokeKind} {regs : List Nat} {h e : Handle} {f : EngineFault} {p : Ports}

theorem readReceiver_of_static (static : kind = .static) : readReceiver kind regs c = .ok none c := by
  subst static
  rfl

/-- Every other kind reads its first argument register. -/
theorem readReceiver_of_instance (inst : kind ≠ .static) :
    readReceiver kind regs c =
      (readRef (regs.headD 0) >>= fun h => requireNonNull h .receiver >>= fun _ => pure (some h)) c := by
  cases kind with
  | static => exact absurd rfl inst
  | _ => rfl

theorem readReceiver_object (inst : kind ≠ .static) (hr : c.top.ref (regs.headD 0) = .ok h) (object : h ≠ null) :
    readReceiver kind regs c = .ok (some h) c :=
  (readReceiver_of_instance inst).trans <| (handler_bind_ok (readRef_ok hr)).trans <|
    handler_bind_ok (requireNonNull_object object)

theorem readReceiver_null (inst : kind ≠ .static) (hr : c.top.ref (regs.headD 0) = .ok h) (isNull : h = null)
    (made : throwNew (.nullPointer .receiver) c.ports = (e, p)) :
    readReceiver kind regs c = .error (.raised e) { c with ports := p } :=
  (readReceiver_of_instance inst).trans <| (handler_bind_ok (readRef_ok hr)).trans <|
    handler_bind_error (requireNonNull_null isNull made)

theorem readReceiver_faults (inst : kind ≠ .static) (hr : c.top.ref (regs.headD 0) = .error f) :
    readReceiver kind regs c = .error (.faulted f) c := by
  refine (readReceiver_of_instance inst).trans (handler_bind_error ?_)
  rw [readRef_run, hr, checked_error]

end

/-! #### The method that is run (R559) -/

section
variable {c : Ctx} {kind : InvokeKind} {m target e : Handle} {recv : Option Handle} {p : Ports}

theorem chooseTarget_own (own : kind = .static ∨ kind = .direct) : chooseTarget kind m recv c = .ok m c := by
  rcases own with rfl | rfl <;> rfl

/-- The other three kinds ask for the target. -/
theorem chooseTarget_of_selecting (notStatic : kind ≠ .static) (notDirect : kind ≠ .direct) :
    chooseTarget kind m recv c = (ask (selectTarget kind m (recv.getD null)) >>= fun r => orResolution r) c := by
  cases kind with
  | static => exact absurd rfl notStatic
  | direct => exact absurd rfl notDirect
  | _ => rfl

theorem chooseTarget_selected (notStatic : kind ≠ .static) (notDirect : kind ≠ .direct)
    (selected : selectTarget kind m (recv.getD null) c.ports = (.ok target, p)) :
    chooseTarget kind m recv c = .ok target { c with ports := p } :=
  (chooseTarget_of_selecting notStatic notDirect).trans <|
    (handler_bind_ok (ask_of_eq selected)).trans (orResolution_run (.ok target) _)

theorem chooseTarget_fails (notStatic : kind ≠ .static) (notDirect : kind ≠ .direct)
    (failed : selectTarget kind m (recv.getD null) c.ports = (.fails e, p)) :
    chooseTarget kind m recv c = .error (.raised e) { c with ports := p } :=
  (chooseTarget_of_selecting notStatic notDirect).trans <|
    (handler_bind_ok (ask_of_eq failed)).trans (orResolution_run (.fails e) _)

end

/-! #### The parameters (R556, R557, R560) -/

/-- Of the reads of the parameters the checks of their registers keep the faults. -/
theorem checkAll_paramSources_eq (a : Activation) (codes : List TypeCode) :
    ∀ regs, a.checkAll (paramSources codes regs) = (a.params codes regs).map fun _ => () := by
  induction codes with
  | nil => exact fun _ => rfl
  | cons t ts ih =>
    intro regs
    cases regs with
    | nil => cases t <;> rfl
    | cons r rs =>
      have sources : paramSources (t :: ts) (r :: rs) = t.source r :: paramSources ts (rs.drop (t.width - 1)) := by
        cases t <;> rfl
      rw [sources, Activation.checkAll, ih, (readsAs_typed t r).check a]
      exact checked_cons_forget (a.typed t r) _

section
variable {c : Ctx} {kind : InvokeKind} {form : ArgForm} {regs : List Nat} {a : Activation} {m target : Handle} {sh : Shorty}
  {recv : Option Handle} {p : Ports}

theorem invokeOn_read {ps : List TypedValue} (chosen : chooseTarget kind m recv c = .ok target { c with ports := p })
    (read : a.params sh.params (regs.drop (receiverWords kind)) = .ok ps) :
    invokeOn kind form regs a m sh recv c = makeCall a.pc (receiverWords kind + paramWords sh.params)
      { kind := kind, form := form, target := target, args := receiverArg recv ++ ps, ret := sh.ret } recv sh
      { c with ports := p } := by
  rw [invokeOn, handler_bind_ok chosen, read]
  exact handler_bind_ok (checked_ok ps _)

/-- The parameter registers are checked after the target is selected (R559, R560). -/
theorem invokeOn_faults {f : EngineFault} (chosen : chooseTarget kind m recv c = .ok target { c with ports := p })
    (bad : a.checkAll (paramSources sh.params (regs.drop (receiverWords kind))) = .error f) :
    invokeOn kind form regs a m sh recv c = .error (.faulted f) { c with ports := p } := by
  rw [checkAll_paramSources_eq] at bad
  rw [invokeOn, handler_bind_ok chosen, error_of_forget bad]
  exact handler_bind_error (checked_error f _)

end

/-! #### A decode that succeeds -/

section
variable {s : State} {a : Activation} {kind : InvokeKind} {idx : Nat} {regs : List Nat} {sh : Shorty} {recv : Option Handle}
  {target : Handle} {args : List TypedValue} {p : Ports}

/-- An invoke whose decode succeeds goes on with the call (R551 step 7). -/
theorem Decoded.invoke_run (decoded : Decoded s a kind idx regs sh recv target args p) (form : ArgForm)
    (rest : List Activation) : invoke kind form idx regs (Ctx.enter s a rest) =
      makeCall a.pc regs.length { kind := kind, form := form, target := target, args := args, ret := sh.ret } recv sh
        ((Ctx.enter s a rest).decoding kind form p) := by
  obtain ⟨⟨m, p1, p2, resolved, described, chosen⟩, words, receiver, ps, read, rfl⟩ := decoded
  rw [← receiverWords_eq] at words read
  rw [← receiverArg_eq, ← words]
  have received : readReceiver kind regs ((Ctx.enter s a rest).decoding kind form p2) =
      .ok recv ((Ctx.enter s a rest).decoding kind form p2) := by
    rcases receiver with ⟨static, rfl⟩ | ⟨inst, h, rfl, hr, object⟩
    · exact readReceiver_of_static static
    · exact readReceiver_object inst hr object
  have selected : chooseTarget kind m recv ((Ctx.enter s a rest).decoding kind form p2) =
      .ok target ((Ctx.enter s a rest).decoding kind form p) := by
    rcases chosen with ⟨own, rfl, rfl⟩ | ⟨notStatic, notDirect, answer⟩
    · exact chooseTarget_own own
    · exact chooseTarget_selected notStatic notDirect answer
  exact (invoke_resolved resolved described).trans <| (invokeMethod_matched words).trans <|
    (handler_bind_ok received).trans (invokeOn_read selected read)

end

/-- Settles O50: the checks in their order, each for an invoke that has passed those before. -/
theorem invokeChecks : Obligations.InvokeChecks := by
  refine ⟨fun s a rest kind n c d e f g x hs many => ?tooMany,
    fun i kind form idx regs invokes s a rest m recv e sh p1 p2 p3 f hs =>
      ⟨fun failed => invokes.exec_raises hs (invoke_unresolved failed) rfl, fun resolved described => ?_⟩⟩
  case tooMany =>
    exact (exec_invokePackedInstr kind n c d e f g x s).trans <|
      runTop_faultsAt (p := s.ports) hs (handler_bind_error (checkCount_many many))
  have onMethod := invoke_resolved (c := .enter s a rest) (form := form) (regs := regs) resolved described
  rw [← receiverWords_eq]
  refine ⟨fun other => invokes.exec_faultsAt hs (onMethod.trans (invokeMethod_mismatch other)) rfl,
    fun inst words => ?onInstance, fun static words bad => ?onClass⟩
  case onInstance =>
    have one : receiverWords kind = 1 := (receiverWords_eq kind).trans (if_neg inst)
    have onWords := onMethod.trans (invokeMethod_matched (one ▸ words))
    refine ⟨fun hr => invokes.exec_faultsAt hs (onWords.trans (handler_bind_error (readReceiver_faults inst hr))) rfl,
      fun hr => ⟨fun isNull made => invokes.exec_raises hs
        (onWords.trans (handler_bind_error (readReceiver_null inst hr isNull made))) rfl,
        fun object indirect failed => ?unselected, fun target object chosen bad => ?badParameter⟩⟩
    case unselected =>
      have onReceiver := onWords.trans (handler_bind_ok (readReceiver_object inst hr object))
      exact invokes.exec_raises hs (onReceiver.trans (handler_bind_error (chooseTarget_fails inst indirect failed))) rfl
    case badParameter =>
      have onReceiver := onWords.trans (handler_bind_ok (readReceiver_object inst hr object))
      rw [← one] at bad
      rcases chosen with ⟨direct, rfl⟩ | ⟨indirect, selected⟩
      · exact invokes.exec_faultsAt hs (onReceiver.trans (invokeOn_faults (chooseTarget_own (.inr direct)) bad)) rfl
      · exact invokes.exec_faultsAt hs
          (onReceiver.trans (invokeOn_faults (chooseTarget_selected inst indirect selected) bad)) rfl
  case onClass =>
    have zero : receiverWords kind = 0 := (receiverWords_eq kind).trans (if_pos static)
    have onReceiver := (onMethod.trans (invokeMethod_matched (by rw [zero, Nat.zero_add, words]))).trans
      (handler_bind_ok (readReceiver_of_static static))
    rw [← List.drop_zero (l := regs), ← zero] at bad
    exact invokes.exec_faultsAt hs (onReceiver.trans (invokeOn_faults (chooseTarget_own (.inl static)) bad)) rfl

/-! ### The nested activation (R562) -/

section
variable {c : Ctx} {pc0 need : Nat} {call : StagedCall} {sh : Shorty} {recv : Option Handle} {p : Ports}
  {info : MethodInfo}

theorem makeCall_nested (asked : isInterpretable call.target c.ports = (true, p)) :
    makeCall pc0 need call recv sh c = callNested pc0 need call sh { c with ports := p } :=
  handler_bind_ok (ask_of_eq asked)

theorem callNested_mismatch (described : methodInfo call.target c.ports = (info, p)) (other : need ≠ info.nins) :
    callNested pc0 need call sh c = .error (.faulted (.paramMismatch pc0)) { c with ports := p } := by
  simp [callNested, described, other]

theorem callNested_tooDeep (described : methodInfo call.target c.ports = (info, p)) (words : need = info.nins)
    (deep : c.params.maxDepth ≤ c.depth) :
    callNested pc0 need call sh c = .error (.faulted (.depth pc0)) { c with ports := p } := by
  simp [callNested, described, words, deep]

theorem callNested_pushes {b : Activation} (described : methodInfo call.target c.ports = (info, p))
    (words : need = info.nins) (room : c.depth < c.params.maxDepth)
    (started : Activation.start (info.toMethod sh) call.args = .ok b) : callNested pc0 need call sh c =
      .ok () { c with
        top := { c.top with st := .calling, inv := .callInterpreted call }, callee := some b, ports := p } := by
  simp [callNested, described, words, room, started]

end

/-- Settles O49: after a decode that succeeds, by NINS and the depth of the stack. -/
theorem invokeNested : Obligations.InvokeNested := by
  intro i kind form idx regs invokes s a rest sh recv target args p p1 p2 info hs decoded asked described
  have onCall := (decoded.invoke_run form rest).trans (makeCall_nested asked)
  have depth : s.stack.length = (Ctx.enter s a rest).depth := congrArg List.length hs
  rw [depth]
  exact ⟨fun other => invokes.exec_faultsAt hs (onCall.trans (callNested_mismatch described other)) rfl,
    fun words deep => invokes.exec_faultsAt hs (onCall.trans (callNested_tooDeep described words deep)) rfl,
    fun b words room started => (invokes.exec_eq hs).trans <|
      runTop_ok hs (onCall.trans (callNested_pushes described words room started))⟩

/-! ### The host call (R563, R564, R705) -/

/-- A context in which an invoke has made a host call. -/
def Ctx.hostCalling (c : Ctx) (call : StagedCall) (p : Ports) : Ctx :=
  { c with top := { c.top with st := .calling, inv := .callHost call }, ports := p }

section
variable {c : Ctx} {pc0 need : Nat} {call : StagedCall} {sh : Shorty} {recv : Option Handle} {p q r : Ports}

theorem makeCall_host (asked : isInterpretable call.target c.ports = (false, p)) :
    makeCall pc0 need call recv sh c = callHost call recv sh { c with ports := p } :=
  handler_bind_ok (ask_of_eq asked)

/-- The call is logged, then awaited. -/
theorem callHost_run : callHost call recv sh c = awaitCall call (c.hostCalling call
    { c.ports with issued := .call call.kind call.target recv call.args sh :: c.ports.issued }) := rfl

theorem awaitCall_resumes {bits : Word64} (answer : callAnswer p = (.returns bits, q)) :
    awaitCall call (c.hostCalling call p) =
      .ok () { c with top := c.top.takeResult (hostResult call.ret bits), ports := q } := by
  rw [awaitCall_returns (c := c.hostCalling call p) answer,
    ← Activation.takeResult_staged (a := c.top) .calling (.callHost call)]
  rfl

/-- The entry call of a re-entry is checked as any entry call, once its method is described (R703, R705). -/
theorem startChain_described {limit depth : Nat} {entry : EntryCall} {info : MethodInfo} {own : Shorty}
    (described : methodInfo entry.method p = (info, q)) (shorty : shortyOf entry.method q = (own, r)) :
    startChain limit depth entry p = (if argWords entry.args ≠ info.nins then .error (.paramMismatch 0)
      else if limit ≤ depth then .error (.depth 0) else Activation.start (info.toMethod own) entry.args, r) := by
  simp [startChain, described, shorty]

end

/-- Settles O48: a host call is awaited as in ChainEnds, its result delivered as in ReturnDelivery. -/
theorem invokeHostCall : Obligations.InvokeHostCall := by
  intro i kind form idx regs invokes s a rest sh recv target args p p1 p2 hs decoded asked logged
  have onCall : invoke kind form idx regs (Ctx.enter s a rest) =
      awaitCall { kind := kind, form := form, target := target, args := args, ret := sh.ret }
        ((Ctx.enter s a rest).hostCalling _ logged) :=
    (decoded.invoke_run form rest).trans ((makeCall_host asked).trans callHost_run)
  refine ⟨fun bits answer => ?returns, fun e answer => ?fails,
    fun entry info own p3 p4 answer described shorty => ?reenters⟩
  case returns =>
    have taken : exec i s = becomesAt s rest (a.takeResult (hostResult sh.ret bits)) p2 :=
      (invokes.exec_eq hs).trans (runTop_becomesAt hs (onCall.trans (awaitCall_resumes answer)))
    refine taken.trans <| congrArg (becomesAt s rest · p2) <|
      Activation.takeResult_eq ?word (putResult_hostResult_rvw a sh.ret bits)
    rcases sh.ret with _ | k | _ | _
    · rfl
    · rw [hostResult_w32]
      cases k <;> rfl
    · rfl
    · rfl
  case fails => exact invokes.exec_raises hs (onCall.trans (awaitCall_fails answer)) rfl
  case reenters =>
    have depth : s.stack.length = (Ctx.enter s a rest).depth := congrArg List.length hs
    rw [depth]
    have chain := startChain_described (limit := s.params.maxDepth) (depth := (Ctx.enter s a rest).depth) described shorty
    refine ⟨fun other => ?mismatch, fun words deep => ?tooDeep, fun b words room started => ?starts⟩
    case mismatch =>
      have refused := chain.trans (congrArg (·, p4) (if_pos other))
      exact invokes.exec_faultsAt hs (onCall.trans (awaitCall_faults answer refused)) rfl
    case tooDeep =>
      have refused := chain.trans (congrArg (·, p4) ((if_neg (not_not.2 words)).trans (if_pos deep)))
      exact invokes.exec_faultsAt hs (onCall.trans (awaitCall_faults answer refused)) rfl
    case starts =>
      have begun := chain.trans (congrArg (·, p4)
        ((if_neg (not_not.2 words)).trans ((if_neg (Nat.not_le.2 room)).trans started)))
      exact (invokes.exec_eq hs).trans (runTop_ok hs (onCall.trans (awaitCall_reenters answer begun)))

end Sys2Proof.Machine
end

section
/-! Construction and the host's entry call (spec/70_reset_and_hazards.md R700 to R704). -/

namespace Sys2Proof.Machine

/-- Settles O7. -/
theorem resetState : Obligations.ResetState := by
  refine ⟨rfl, rfl, State.Healthy.inv ⟨⟨?positive, Nat.zero_le _⟩, rfl, .inl rfl⟩⟩
  case positive => exact Nat.le_add_left 1 Config.extraDepth

section
variable {s : State} {call : EntryCall} {later : List EntryCall} {p : Ports}

/-- With no activation and no fault the oldest entry call boots (R703). -/
theorem step_boots (hf : s.fault = none) (hs : s.stack = []) (waiting : s.ports.entries = call :: later) :
    step s = .next (boot s call later) := by
  rw [step_idle hf hs, idleStep, waiting]

theorem boot_starts {a : Activation}
    (started : startChain s.params.maxDepth 0 call { s.ports with entries := later, hostExc := none } = (.ok a, p)) :
    boot s call later = { s with stack := [a], ports := p } := by
  rw [boot, started]

theorem boot_faults {f : EngineFault}
    (refused : startChain s.params.maxDepth 0 call { s.ports with entries := later, hostExc := none } = (.error f, p)) :
    boot s call later = State.abort { s with ports := p } f := by
  rw [boot, refused]

end

/-- Settles O10: the two checks of `startChain` in their order, then the first activation. -/
theorem entryCallBoots : Obligations.EntryCallBoots := by
  intro s call later info sh p1 p2 hf hs waiting described shorty
  have chain := startChain_described (limit := s.params.maxDepth) (depth := 0) described shorty
  rw [step_boots hf hs waiting]
  refine ⟨fun words room a started => ?starts, fun words shallow => ?tooShallow, fun other => ?mismatch⟩
  case starts =>
    rw [if_neg (not_not.2 words), if_neg (Nat.not_le.2 room), started] at chain
    exact congrArg Host.Outcome.next (boot_starts chain)
  case tooShallow =>
    rw [if_neg (not_not.2 words), if_pos (Nat.le_of_lt_succ shallow)] at chain
    exact congrArg Host.Outcome.next (boot_faults chain)
  case mismatch =>
    rw [if_pos other] at chain
    exact congrArg Host.Outcome.next (boot_faults chain)

end Sys2Proof.Machine
end

section
/-! The unwinder (spec/60_exceptions.md R620 to R624): the choice of a range, the search of its handlers, and the step. -/

namespace Sys2Proof.Machine

/-! ### The choice of a range (R621, R622) -/

theorem TryRange.covers_iff {r : TryRange} {p : Nat} : r.covers p = true ↔ r.start ≤ p ∧ p < r.start + r.length := by
  simp [TryRange.covers]

/-- `r` has the largest start of the ranges in the table that cover `p`, and is the first of that start. -/
def Selected (p : Nat) (tries : List TryRange) (r : TryRange) : Prop :=
  ∃ before after, tries = before ++ r :: after ∧ r.start ≤ p ∧ p < r.start + r.length ∧
    (∀ q ∈ before, q.start ≤ p → p < q.start + q.length → q.start < r.start) ∧
    (∀ q ∈ after, q.start ≤ p → p < q.start + q.length → q.start ≤ r.start)

section
variable {p : Nat} {q r b : TryRange} {rs : List TryRange}

theorem Selected.start_le (h : Selected p rs r) (mem : q ∈ rs) (covers : q.covers p = true) : q.start ≤ r.start := by
  obtain ⟨before, after, rfl, -, -, larger, largest⟩ := h
  obtain ⟨low, high⟩ := TryRange.covers_iff.1 covers
  rcases List.mem_append.1 mem with inBefore | inRest
  · exact (larger q inBefore low high).le
  · rcases List.mem_cons.1 inRest with rfl | inAfter
    · exact le_rfl
    · exact largest q inAfter low high

/-- A range in front of the others that does not cover, or starts earlier. -/
theorem Selected.cons (h : Selected p rs r) (smaller : q.covers p = true → q.start < r.start) : Selected p (q :: rs) r := by
  obtain ⟨before, after, rfl, low, high, larger, largest⟩ := h
  exact ⟨q :: before, after, rfl, low, high,
    List.forall_mem_cons.2 ⟨fun h1 h2 => smaller (TryRange.covers_iff.2 ⟨h1, h2⟩), larger⟩, largest⟩

/-- A range just after the first, which covers, that does not cover or starts no later. -/
theorem Selected.cons_cons (h : Selected p (b :: rs) r) (candidate : b.covers p = true)
    (passed : q.covers p = true → q.start ≤ b.start) : Selected p (b :: q :: rs) r := by
  obtain ⟨before, after, table, low, high, larger, largest⟩ := h
  have notAhead : q.start ≤ p → p < q.start + q.length → q.start ≤ b.start := fun h1 h2 =>
    passed (TryRange.covers_iff.2 ⟨h1, h2⟩)
  cases before with
  | nil =>
    cases table
    exact ⟨[], q :: rs, rfl, low, high, nofun, List.forall_mem_cons.2 ⟨notAhead, largest⟩⟩
  | cons x before =>
    cases table
    obtain ⟨first, others⟩ := List.forall_mem_cons.1 larger
    obtain ⟨c1, c2⟩ := TryRange.covers_iff.1 candidate
    exact ⟨b :: q :: before, after, rfl, low, high, List.forall_mem_cons.2
      ⟨first, List.forall_mem_cons.2 ⟨fun h1 h2 => (notAhead h1 h2).trans_lt (first c1 c2), others⟩⟩, largest⟩

/-- The scan from a candidate on (R622): the candidate counts as the first range of the table. -/
theorem selectRange_candidate (candidate : b.covers p = true) :
    ∃ r, selectRange p (some b) rs = some r ∧ Selected p (b :: rs) r := by
  induction rs generalizing b with
  | nil =>
    obtain ⟨low, high⟩ := TryRange.covers_iff.1 candidate
    exact ⟨b, rfl, [], [], rfl, low, high, nofun, nofun⟩
  | cons q rs ih =>
    rw [selectRange]
    by_cases covers : q.covers p = true
    · rw [if_pos covers]
      by_cases later : b.start < q.start
      · rw [if_pos later]
        obtain ⟨r, scanned, selected⟩ := ih covers
        exact ⟨r, scanned, selected.cons fun _ =>
          later.trans_le (selected.start_le List.mem_cons_self covers)⟩
      · rw [if_neg later]
        obtain ⟨r, scanned, selected⟩ := ih candidate
        exact ⟨r, scanned, selected.cons_cons candidate fun _ => Nat.le_of_not_lt later⟩
    · rw [if_neg covers]
      obtain ⟨r, scanned, selected⟩ := ih candidate
      exact ⟨r, scanned, selected.cons_cons candidate fun h => absurd h covers⟩

/-- What the scan of a table answers. -/
theorem selectRange_cases (p : Nat) (tries : List TryRange) :
    (selectRange p none tries = none ∧ ∀ r ∈ tries, ¬r.covers p = true) ∨
      ∃ r, selectRange p none tries = some r ∧ Selected p tries r := by
  induction tries with
  | nil => exact .inl ⟨rfl, nofun⟩
  | cons q rs ih =>
    rw [selectRange]
    by_cases covers : q.covers p = true
    · rw [if_pos covers]
      exact .inr (selectRange_candidate covers)
    · rw [if_neg covers]
      exact ih.imp (fun ⟨scanned, others⟩ => ⟨scanned, List.forall_mem_cons.2 ⟨covers, others⟩⟩)
        fun ⟨r, scanned, selected⟩ => ⟨r, scanned, selected.cons fun h => absurd h covers⟩

end

theorem selectRange_none_iff {p : Nat} {tries : List TryRange} :
    selectRange p none tries = none ↔ ∀ r ∈ tries, ¬(r.start ≤ p ∧ p < r.start + r.length) := by
  simp only [← TryRange.covers_iff]
  rcases selectRange_cases p tries with ⟨scanned, uncovered⟩ | ⟨r, scanned, selected⟩
  · exact iff_of_true scanned uncovered
  · obtain ⟨before, after, rfl, low, high, -, -⟩ := selected
    refine iff_of_false (by simp [scanned]) fun uncovered => ?_
    exact uncovered r (by simp) (TryRange.covers_iff.2 ⟨low, high⟩)

theorem selectRange_selected {p : Nat} {tries : List TryRange} {r : TryRange} (h : selectRange p none tries = some r) :
    Selected p tries r := by
  rcases selectRange_cases p tries with ⟨scanned, -⟩ | ⟨r', scanned, selected⟩ <;> cases scanned.symm.trans h
  exact selected

section
variable {a : Activation} {e : Handle} {q : Ports}

theorem findHandler_uncovered (h : selectRange a.pc none a.method.tries = none) : a.findHandler e q = (none, q) := by
  rw [Activation.findHandler, h]
  rfl

theorem findHandler_covered {r : TryRange} (h : selectRange a.pc none a.method.tries = some r) :
    a.findHandler e q = r.handlers.search e q := by
  rw [Activation.findHandler, h]

end

/-- Settles O54. -/
theorem rangeSelection : Obligations.RangeSelection := by
  intro p tries
  refine ⟨selectRange_none_iff, fun r => selectRange_selected, ?_⟩
  rintro a e q rfl rfl
  exact ⟨findHandler_uncovered, fun r => findHandler_covered⟩

/-! ### The search of the handlers (R623) -/

section
variable {e c x : Handle} {ti : Nat} {t : Int} {l : List (Nat × Int)} {p p1 p2 : Ports}

theorem matchTyped_unresolved (unresolved : resolveClass ti p = (.fails x, p1)) :
    matchTyped e ((ti, t) :: l) p = matchTyped e l p1 := by
  rw [matchTyped, port_bind, unresolved]

theorem matchTyped_resolved {found : Bool} (resolved : resolveClass ti p = (.ok c, p1))
    (asked : isInstanceOf e c p1 = (found, p2)) :
    matchTyped e ((ti, t) :: l) p = if found then (some t, p2) else matchTyped e l p2 := by
  rw [matchTyped, port_bind, resolved]
  dsimp only
  rw [port_bind, asked]
  cases found <;> rfl

end

section
variable {h : HandlerList} {e : Handle} {p p1 : Ports}

theorem HandlerList.typed_eq (counted : h.pairs.length = h.count.natAbs) : h.typed = h.pairs := by
  rw [HandlerList.typed, ← counted, List.take_length]

theorem HandlerList.otherwise_eq (present : h.catchAll.isSome ↔ h.count ≤ 0) : h.otherwise = h.catchAll := by
  rw [HandlerList.otherwise]
  split
  next => rfl
  next positive => exact (Option.not_isSome_iff_eq_none.1 fun there => positive (present.1 there)).symm

theorem HandlerList.search_matched {t : Int} (matched : matchTyped e h.typed p = (some t, p1)) :
    h.search e p = (some t, p1) := by
  rw [HandlerList.search, port_bind, matched]
  rfl

theorem HandlerList.search_unmatched (unmatched : matchTyped e h.typed p = (none, p1)) :
    h.search e p = (h.otherwise, p1) := by
  rw [HandlerList.search, port_bind, unmatched]
  rfl

end

/-- Settles O55. -/
theorem handlerSearch : Obligations.HandlerSearch := by
  intro e c ti t l p p1 p2 x
  refine ⟨rfl, matchTyped_unresolved, fun resolved asked => matchTyped_resolved resolved asked,
    fun resolved asked => matchTyped_resolved resolved asked, fun h counted present => ?_⟩
  rw [← h.typed_eq counted, ← h.otherwise_eq present]
  exact ⟨fun u => h.search_matched, h.search_unmatched⟩

/-! ### The step (R620, R623, R624, R567) -/

section
variable {a : Activation} {t : Int}

theorem resumeAt_inside (inside : 0 ≤ t ∧ t ≤ a.method.len) :
    a.resumeAt t = .ok { a with pc := t.toNat, st := .run } := by
  rw [Activation.resumeAt, Activation.goTo, if_pos inside]
  rfl

theorem resumeAt_outside (outside : ¬(0 ≤ t ∧ t ≤ a.method.len)) : a.resumeAt t = .error (.pcRange t) := by
  rw [Activation.resumeAt, Activation.goTo, if_neg outside]
  rfl

end

section
variable {s : State} {a : Activation} {rest : List Activation} {e : Handle} {t : Int} {p : Ports}

theorem unwind_resumes (found : a.findHandler e s.ports = (some t, p)) (inside : 0 ≤ t ∧ t ≤ a.method.len) :
    unwind s a rest e = becomesAt s rest { a with pc := t.toNat, st := .run } p := by
  rw [unwind, found]
  dsimp only
  rw [resumeAt_inside inside]
  rfl

theorem unwind_faults (found : a.findHandler e s.ports = (some t, p)) (outside : ¬(0 ≤ t ∧ t ≤ a.method.len)) :
    unwind s a rest e = faultsAt s (.pcRange t) p := by
  rw [unwind, found]
  dsimp only
  rw [resumeAt_outside outside]
  rfl

theorem unwind_uncaught (missed : a.findHandler e s.ports = (none, p)) :
    unwind s a rest e = propagate { s with ports := p } e rest := by
  rw [unwind, missed]

end

/-- Settles O52. -/
theorem unwinding : Obligations.Unwinding := by
  intro s a rest e p hf hs st exc
  rw [step_throwing hf hs st exc]
  refine ⟨fun t found => ⟨fun low high => unwind_resumes found ⟨low, high⟩,
    fun outside => unwind_faults found (by omega)⟩, ?_⟩
  rintro b below call missed rfl waits
  rw [unwind_uncaught missed]
  exact propagate_nested (awaitsCallee_of_inv waits)

end Sys2Proof.Machine
end

section
/-! The check after every transaction (spec/60_exceptions.md R604): what the log of a sequence of transactions looks like,
and that every operation on the ports leaves such a log. -/

namespace Sys2Proof.Machine

/-! ### A log whose transactions are checked -/

/-- A log, newest first, of transactions each followed at once by the query of the host's exception-raised state, in which
a clearing comes only after that query. Where `held` holds, a host call may instead be followed by the description of the
method that the host re-enters the engine with (R705). -/
inductive Queried (held : Prop) : List Request → Prop
  | nil : Queried held []
  | asked {log : List Request} (older : Queried held log) : Queried held (.exceptionOccurred :: log)
  | cleared {log : List Request} (older : Queried held (.exceptionOccurred :: log)) :
      Queried held (.exceptionClear :: .exceptionOccurred :: log)
  | transaction {log : List Request} (r : Request) (other : r ≠ .exceptionClear) (older : Queried held log) :
      Queried held (.exceptionOccurred :: r :: log)
  | reentered {log : List Request} (m : Handle) (kind : InvokeKind) (target : Handle) (recv : Option Handle)
      (args : List TypedValue) (sh : Shorty) (isHeld : held) (older : Queried held log) :
      Queried held (.exceptionOccurred :: .methodInfo m :: .call kind target recv args sh :: log)

/-- What the log holds beside the request `r` that stands at `k` in it. -/
structure QueriedAt (held : Prop) (log : List Request) (k : Nat) (r : Request) : Prop where
  cleared : r = .exceptionClear → log[k + 1]? = some .exceptionOccurred
  called : ∀ kind m recv args sh, r = .call kind m recv args sh → (0 < k ∧ log[k - 1]? = some .exceptionOccurred) ∨
    held ∧ 0 < k ∧ ∃ m, log[k - 1]? = some (.methodInfo m)
  asked : ¬(r = .exceptionOccurred ∨ r = .exceptionClear) → (∀ kind m recv args sh, r ≠ .call kind m recv args sh) →
    0 < k ∧ log[k - 1]? = some .exceptionOccurred

section
variable {held held' : Prop} {log newer : List Request} {k : Nat} {r x : Request}

theorem Queried.append (new : Queried held newer) (old : Queried held log) : Queried held (newer ++ log) := by
  induction new with
  | nil => exact old
  | asked _ ih => exact .asked ih
  | cleared _ ih => exact .cleared ih
  | transaction r other _ ih => exact .transaction r other ih
  | reentered m kind target recv args sh isHeld _ ih => exact .reentered m kind target recv args sh isHeld ih

theorem Queried.mono (h : Queried held log) (weaker : held → held') : Queried held' log := by
  induction h with
  | nil => exact .nil
  | asked _ ih => exact .asked ih
  | cleared _ ih => exact .cleared ih
  | transaction r other _ ih => exact .transaction r other ih
  | reentered m kind target recv args sh isHeld _ ih => exact .reentered m kind target recv args sh (weaker isHeld) ih

/-- The newest entry is the query or the clearing after it. -/
theorem Queried.head_checks (h : Queried held log) (nonempty : log ≠ []) :
    ∃ r, log.head? = some r ∧ (r = .exceptionOccurred ∨ r = .exceptionClear) := by
  cases h with
  | nil => exact absurd rfl nonempty
  | cleared => exact ⟨_, rfl, .inr rfl⟩
  | _ => exact ⟨_, rfl, .inl rfl⟩

/-- What stands just above an entry stays there under a newer entry. -/
theorem getElem?_above_cons (h : 0 < k ∧ log[k - 1]? = some r) : 0 < k + 1 ∧ (x :: log)[k + 1 - 1]? = some r := by
  obtain ⟨pos, above⟩ := h
  cases k with
  | zero => exact absurd pos (Nat.lt_irrefl 0)
  | succ k => exact ⟨Nat.succ_pos _, above⟩

theorem QueriedAt.cons (h : QueriedAt held log k r) : QueriedAt held (x :: log) (k + 1) r where
  cleared := h.cleared
  called kind m recv args sh hr := (h.called kind m recv args sh hr).imp getElem?_above_cons
    fun ⟨isHeld, pos, m, above⟩ =>
      have ⟨pos', above'⟩ := getElem?_above_cons ⟨pos, above⟩
      ⟨isHeld, pos', m, above'⟩
  asked notCheck notCall := getElem?_above_cons (h.asked notCheck notCall)

theorem queriedAt_query : QueriedAt held log k .exceptionOccurred :=
  ⟨nofun, nofun, fun notCheck => absurd (.inl rfl) notCheck⟩

theorem queriedAt_asked (other : r ≠ .exceptionClear) : QueriedAt held (.exceptionOccurred :: r :: log) 1 r :=
  ⟨fun clear => absurd clear other, fun _ _ _ _ _ _ => .inl ⟨Nat.one_pos, rfl⟩, fun _ _ => ⟨Nat.one_pos, rfl⟩⟩

theorem Queried.at (h : Queried held log) (hr : log[k]? = some r) : QueriedAt held log k r := by
  induction h generalizing k with
  | nil => cases hr
  | asked _ ih =>
    match k, hr with
    | 0, rfl => exact queriedAt_query
    | k + 1, hr => exact (ih hr).cons
  | cleared _ ih =>
    match k, hr with
    | 0, rfl => exact ⟨fun _ => rfl, nofun, fun notCheck => absurd (.inr rfl) notCheck⟩
    | k + 1, hr => exact (ih hr).cons
  | transaction x other _ ih =>
    match k, hr with
    | 0, rfl => exact queriedAt_query
    | 1, rfl => exact queriedAt_asked other
    | k + 2, hr => exact (ih hr).cons.cons
  | reentered m kind target recv args sh isHeld _ ih =>
    match k, hr with
    | 0, rfl => exact queriedAt_query
    | 1, rfl => exact queriedAt_asked nofun
    | 2, rfl =>
      exact ⟨nofun, fun _ _ _ _ _ _ => .inr ⟨isHeld, Nat.two_pos, m, rfl⟩,
        fun _ notCall => absurd rfl (notCall kind target recv args sh)⟩
    | k + 3, hr => exact (ih hr).cons.cons.cons

end

/-! ### What the ports log -/

/-- The log has grown by checked transactions. -/
def Ports.Logged (held : Prop) (p q : Ports) : Prop := ∃ new, Queried held new ∧ q.issued = new ++ p.issued

/-- The log is `log` with the query of the host's exception-raised state, and the clearing of what it found. -/
def Ports.Inquired (log : List Request) (q : Ports) : Prop :=
  q.issued = .exceptionOccurred :: log ∨ q.issued = .exceptionClear :: .exceptionOccurred :: log

section
variable {held held' : Prop} {p q r : Ports} {x : Request}

theorem Ports.Logged.of_issued_eq (h : q.issued = p.issued) : p.Logged held q := ⟨[], .nil, h⟩

theorem Ports.Logged.refl (p : Ports) : p.Logged held p := .of_issued_eq rfl

theorem Ports.Logged.trans (h : p.Logged held q) (g : q.Logged held r) : p.Logged held r := by
  obtain ⟨older, hOlder, hq⟩ := h
  obtain ⟨newer, hNewer, hr⟩ := g
  exact ⟨newer ++ older, hNewer.append hOlder, by rw [hr, hq, List.append_assoc]⟩

theorem Ports.Logged.mono (h : p.Logged held q) (weaker : held → held') : p.Logged held' q := by
  obtain ⟨new, queried, issued⟩ := h
  exact ⟨new, queried.mono weaker, issued⟩

theorem Ports.Logged.of_false (h : p.Logged False q) : p.Logged held q := h.mono False.elim

theorem Ports.Logged.length_le (h : p.Logged held q) : p.issued.length ≤ q.issued.length := by
  obtain ⟨new, -, issued⟩ := h
  simp [issued]

theorem Ports.Inquired.length_lt {log : List Request} (h : q.Inquired log) : log.length < q.issued.length := by
  rcases h with issued | issued <;> simp [issued]

/-- The check with no transaction before it: a host call is answered (R604). -/
theorem Ports.Inquired.logged (h : q.Inquired p.issued) : p.Logged held q :=
  h.elim (fun issued => ⟨[_], .asked .nil, issued⟩) fun issued => ⟨[_, _], .cleared (.asked .nil), issued⟩

theorem Ports.Inquired.logged_transaction (h : q.Inquired (x :: p.issued)) (other : x ≠ .exceptionClear) :
    p.Logged held q :=
  have asked : Queried held [.exceptionOccurred, x] := .transaction x other .nil
  h.elim (fun issued => ⟨_, asked, issued⟩) fun issued => ⟨_, .cleared asked, issued⟩

/-- A host call inside which the host re-enters the engine. -/
theorem Ports.Inquired.logged_reentry {m target : Handle} {kind : InvokeKind} {recv : Option Handle}
    {args : List TypedValue} {sh : Shorty} (h : q.Inquired (.methodInfo m :: .call kind target recv args sh :: p.issued))
    (isHeld : held) : p.Logged held q :=
  have asked : Queried held [.exceptionOccurred, .methodInfo m, .call kind target recv args sh] :=
    .reentered m kind target recv args sh isHeld .nil
  h.elim (fun issued => ⟨_, asked, issued⟩) fun issued => ⟨_, .cleared asked, issued⟩

end

/-! ### Operations on the ports -/

/-- An operation that logs checked transactions. -/
def Logs {α : Type} (m : Port α) : Prop := ∀ p : Ports, p.Logged False (m p).2

/-- An operation that logs nothing. -/
def Unlogged {α : Type} (m : Port α) : Prop := ∀ p : Ports, (m p).2.issued = p.issued

/-- An operation that logs the check and nothing else. -/
def Inquires {α : Type} (m : Port α) : Prop := ∀ p : Ports, (m p).2.Inquired p.issued

/-- An operation whose first transaction is `r`. -/
def Transacts {α : Type} (r : Request) (m : Port α) : Prop :=
  ∀ p : Ports, ∃ q : Ports, q.Inquired (r :: p.issued) ∧ q.Logged False (m p).2

section
variable {α β : Type} {r : Request}

theorem unlogged_pure (v : α) : Unlogged (pure v : Port α) := fun _ => rfl

theorem unlogged_takeAnswer (pick : Answer → Option α) (free : Nat → α) : Unlogged (takeAnswer pick free) := fun p =>
  have ⟨_, _, _, issued, _⟩ := takeAnswer_frame pick free p
  issued

theorem unlogged_hostRaise (e : Option Handle) : Unlogged (hostRaise e) := fun _ => by cases e <;> rfl

theorem Unlogged.logs {m : Port α} (h : Unlogged m) : Logs m := fun p => .of_issued_eq (h p)

theorem logs_pure (v : α) : Logs (pure v : Port α) := (unlogged_pure v).logs

theorem logs_bind {x : Port α} {f : α → Port β} (hx : Logs x) (hf : ∀ v, Logs (f v)) : Logs (x >>= f) := fun p =>
  (hx p).trans (hf _ _)

theorem inquires_pickUp : Inquires pickUp := fun p => by
  unfold pickUp
  split
  · exact .inl rfl
  · exact .inr rfl

theorem inquires_after {x : Port α} {f : α → Port β} (hx : Unlogged x) (hf : ∀ v, Inquires (f v)) : Inquires (x >>= f) :=
  fun p => hx p ▸ hf (x p).1 (x p).2

theorem inquires_then {x : Port α} {f : α → Port β} (hx : Inquires x) (hf : ∀ v, Unlogged (f v)) : Inquires (x >>= f) :=
  fun p => (hx p).imp (hf _ _).trans (hf _ _).trans

theorem inquires_answered (pick : Answer → Option α) (free : Nat → α) (raised : α → Option Handle) :
    Inquires (answered pick free raised) :=
  inquires_after (unlogged_takeAnswer _ _) fun _ => inquires_after (unlogged_hostRaise _) fun _ =>
    inquires_then inquires_pickUp fun _ => unlogged_pure _

theorem transacts_issue {f : Unit → Port α} (hf : Inquires (f ())) : Transacts r (issue r >>= f) := fun p =>
  ⟨_, hf { p with issued := r :: p.issued }, .refl _⟩

theorem transacts_then {x : Port α} {f : α → Port β} (hx : Transacts r x) (hf : ∀ v, Logs (f v)) :
    Transacts r (x >>= f) := fun p =>
  have ⟨q, asked, logged⟩ := hx p
  ⟨q, asked, logged.trans (hf _ _)⟩

theorem Transacts.logs {m : Port α} (h : Transacts r m) (other : r ≠ .exceptionClear) : Logs m := fun p =>
  have ⟨_, asked, logged⟩ := h p
  (asked.logged_transaction other).trans logged

theorem transacts_query (r : Request) (pick : Answer → Option α) (free : Nat → α) : Transacts r (query r pick free) :=
  transacts_issue (inquires_then (inquires_answered _ _ _) fun _ => unlogged_pure _)

theorem transacts_attempt (r : Request) (pick : Answer → Option (Reply α)) (free : Nat → Reply α) :
    Transacts r (attempt r pick free) :=
  transacts_issue (inquires_then (inquires_answered _ _ _) fun _ => unlogged_pure _)

theorem transacts_send (r : Request) : Transacts r (send r) :=
  transacts_issue (inquires_then inquires_pickUp fun _ => unlogged_pure _)

end

theorem logs_throwNew (x : NewException) : Logs (throwNew x) :=
  (transacts_issue (inquires_then (inquires_answered _ _ _) fun _ => unlogged_pure _)).logs nofun

theorem logs_monitorEnterOn (h : Handle) : Logs (monitorEnterOn h) :=
  (transacts_issue (inquires_then (inquires_answered _ _ _) fun _ => unlogged_pure _)).logs nofun

theorem logs_exceptionObject (x : Cause) : Logs (exceptionObject x) := by
  cases x with
  | new n => exact logs_throwNew n
  | _ => exact logs_pure _

theorem logs_produce32 (r : Option Nat) : Logs (produce32 r) := by
  cases r with
  | some n => exact logs_pure _
  | none => exact fun p => .of_issued_eq rfl

theorem logs_produce64 (r : Option Nat) : Logs (produce64 r) := by
  cases r with
  | some n => exact logs_pure _
  | none => exact fun p => .of_issued_eq rfl

theorem transacts_methodInfo (m : Handle) : Transacts (.methodInfo m) (methodInfo m) :=
  transacts_then (transacts_query _ _ _) fun _ => logs_pure _

/-- A chain starts with the description of its method (R703). -/
theorem transacts_startChain (maxDepth depth : Nat) (call : EntryCall) :
    Transacts (.methodInfo call.method) (startChain maxDepth depth call) :=
  transacts_then (transacts_methodInfo _) fun _ =>
    logs_bind ((transacts_query _ _ _).logs nofun) fun _ => logs_pure _

theorem logs_matchTyped (e : Handle) (l : List (Nat × Int)) : Logs (matchTyped e l) := by
  induction l with
  | nil => exact logs_pure _
  | cons x xs ih =>
    obtain ⟨ti, t⟩ := x
    unfold matchTyped
    refine logs_bind ((transacts_attempt _ _ _).logs nofun) fun r => ?_
    cases r with
    | fails _ => exact ih
    | ok cls =>
      refine logs_bind ((transacts_query _ _ _).logs nofun) fun b => ?_
      cases b with
      | false => exact ih
      | true => exact logs_pure _

theorem logs_search (l : HandlerList) (e : Handle) : Logs (l.search e) :=
  logs_bind (logs_matchTyped e _) fun r => by cases r <;> exact logs_pure _

theorem logs_findHandler (a : Activation) (e : Handle) : Logs (a.findHandler e) := by
  unfold Activation.findHandler
  split
  · exact logs_pure _
  · exact logs_search _ _

/-- An answer to a host call is followed by the check, unless the host re-enters the engine (R604, R705). -/
theorem callAnswer_inquires (p : Ports) :
    (∃ entry, (callAnswer p).1 = .reenters entry) ∧ (callAnswer p).2.issued = p.issued ∨
      (∀ entry, (callAnswer p).1 ≠ .reenters entry) ∧ (callAnswer p).2.Inquired p.issued := by
  rw [callAnswer, port_bind, ← unlogged_takeAnswer Answer.call? Config.freeCall p]
  rcases takeAnswer Answer.call? Config.freeCall p with ⟨answer, q⟩
  cases answer with
  | reenters entry => exact .inl ⟨⟨entry, rfl⟩, rfl⟩
  | returns bits =>
    refine .inr ⟨?_, inquires_then inquires_pickUp (fun e => by cases e <;> exact unlogged_pure _) q⟩
    dsimp only
    rw [port_bind]
    cases (pickUp q).1 <;> nofun
  | fails e =>
    exact .inr ⟨nofun, inquires_after (unlogged_hostRaise (some e))
      (fun _ => inquires_then inquires_pickUp fun _ => unlogged_pure _) q⟩

end Sys2Proof.Machine
end

section
/-! What a handler logs, and where it leaves the cursor when it faults (spec/60_exceptions.md R604, R611): the parts of a
handler, then its endings. -/

namespace Sys2Proof.Machine

/-! ### Parts -/

/-- `d` comes after `c` by checked transactions, the cursor and the outstanding host calls as they were. -/
structure Ctx.After (c d : Ctx) : Prop where
  log : c.ports.Logged False d.ports
  calls : d.ports.calls = c.ports.calls
  pc : d.top.pc = c.top.pc

theorem Ctx.After.refl (c : Ctx) : c.After c := ⟨.refl _, rfl, rfl⟩

theorem Ctx.After.trans {c d e : Ctx} (h : c.After d) (g : d.After e) : c.After e :=
  ⟨h.log.trans g.log, g.calls.trans h.calls, g.pc.trans h.pc⟩

/-- A part of a handler that ends so, however it ends. -/
def Prompt {α : Type} (x : Handler α) : Prop := ∀ c : Ctx, c.After (resultCtx (x c))

section
variable {α β : Type}

theorem prompt_pure (v : α) : Prompt (pure v : Handler α) := fun c => .refl c

theorem prompt_bind {x : Handler α} {f : α → Handler β} (hx : Prompt x) (hf : ∀ v, Prompt (f v)) : Prompt (x >>= f) :=
  fun c => by
    have h := hx c
    cases hr : x c with
    | ok v d =>
      rw [hr] at h
      rw [handler_bind_ok hr]
      exact h.trans (hf v d)
    | error e d =>
      rw [hr] at h
      rw [handler_bind_error hr]
      exact h

theorem prompt_ite {q : Prop} [Decidable q] {x y : Handler α} (hx : Prompt x) (hy : Prompt y) :
    Prompt (if q then x else y) := by
  split
  · exact hx
  · exact hy

theorem prompt_getTop : Prompt getTop := fun c => .refl c

theorem prompt_get : Prompt (get : Handler Ctx) := fun c => .refl c

theorem prompt_faultWith (f : EngineFault) : Prompt (faultWith f : Handler α) := fun c => .refl c

theorem prompt_checked (x : Checked α) : Prompt (checked x) := fun c => by cases x <;> exact .refl c

/-- A view of the top activation: every read of a register or of the stream is one. -/
theorem prompt_view {f : Activation → Checked α} : Prompt (getTop >>= fun a => checked (f a)) :=
  prompt_bind prompt_getTop fun _ => prompt_checked _

theorem prompt_ask {m : Port α} (quiet : Quiet m) (logs : Logs m) : Prompt (ask m) := fun c =>
  have ⟨_, _, _, calls⟩ := quiet c.ports
  ⟨logs c.ports, calls, rfl⟩

theorem prompt_query {r : Request} {pick : Answer → Option α} {free : Nat → α}
    (other : r ≠ .exceptionClear := by nofun) : Prompt (ask (query r pick free)) :=
  prompt_ask (query_frame _ _ _).1 ((transacts_query _ _ _).logs other)

theorem prompt_attempt {r : Request} {pick : Answer → Option (Reply α)} {free : Nat → Reply α}
    (other : r ≠ .exceptionClear := by nofun) : Prompt (ask (attempt r pick free)) :=
  prompt_ask (attempt_frame _ _ _).1 ((transacts_attempt _ _ _).logs other)

theorem prompt_send {r : Request} (other : r ≠ .exceptionClear := by nofun) : Prompt (ask (send r)) :=
  prompt_ask (send_frame _).1 ((transacts_send _).logs other)

theorem prompt_raise (x : Cause) : Prompt (raise x : Handler α) :=
  prompt_bind (prompt_ask (quiet_exceptionObject x) (logs_exceptionObject x)) fun _ c => .refl c

theorem prompt_orResolution (r : Reply α) : Prompt (orResolution r) := by
  cases r with
  | ok v => exact prompt_pure v
  | fails e => exact prompt_raise _

theorem prompt_orHost (r : Reply α) : Prompt (orHost r) := by
  cases r with
  | ok v => exact prompt_pure v
  | fails e => exact prompt_raise _

end

theorem prompt_readRV : Prompt readRV :=
  prompt_bind prompt_getTop fun _ => prompt_ite (prompt_pure _) (prompt_faultWith _)

theorem prompt_classRef (idx : Nat) : Prompt (classRef idx) := prompt_bind prompt_attempt fun _ => prompt_orResolution _

theorem prompt_requireNonNull (h : Handle) (what : NullWhat) : Prompt (requireNonNull h what) :=
  prompt_ite (prompt_raise _) (prompt_pure _)

theorem prompt_instanceOrNull (h cls : Handle) (b : Bool) : Prompt (instanceOrNull h cls b) :=
  prompt_ite (prompt_pure _) prompt_query

theorem prompt_checkMagic (magic : CodeUnit) (t : Int) : Prompt (checkMagic magic t) :=
  prompt_bind prompt_view fun _ => prompt_ite (prompt_pure _) (prompt_faultWith _)

theorem prompt_checkCount (n : BitVec 4) : Prompt (checkCount n) :=
  prompt_bind prompt_getTop fun _ => prompt_ite (prompt_faultWith _) (prompt_pure _)

theorem prompt_checkElement (arr : Handle) (idx : Int) : Prompt (checkElement arr idx) :=
  prompt_bind (prompt_requireNonNull _ _) fun _ => prompt_bind prompt_query fun _ =>
    prompt_ite (prompt_raise _) (prompt_pure _)

theorem prompt_getElement (t : TypeCode) (arrReg idxReg : Nat) : Prompt (getElement t arrReg idxReg) :=
  prompt_bind prompt_view fun _ => prompt_bind prompt_view fun _ =>
    prompt_bind (prompt_checkElement _ _) fun _ => prompt_query

theorem prompt_readFilled (k : ElemKind) (regs : List Nat) : Prompt (readFilled k regs) :=
  prompt_bind prompt_getTop fun _ => by
    split
    · exact prompt_checked _
    · exact prompt_checked _
    · exact prompt_checked _
    · exact prompt_raise _

theorem prompt_nullMonitor (pc0 : Nat) : Prompt (nullMonitor pc0) :=
  prompt_bind prompt_get fun c => by
    cases c.params.monitorNull with
    | fault => exact prompt_faultWith _
    | npe => exact prompt_raise _

theorem prompt_readReceiver (kind : InvokeKind) (regs : List Nat) : Prompt (readReceiver kind regs) := by
  unfold readReceiver
  split
  · exact prompt_pure _
  · exact prompt_bind prompt_view fun _ => prompt_bind (prompt_requireNonNull _ _) fun _ => prompt_pure _

theorem prompt_chooseTarget (kind : InvokeKind) (m : Handle) (recv : Option Handle) :
    Prompt (chooseTarget kind m recv) := by
  unfold chooseTarget
  split
  · exact prompt_pure _
  · exact prompt_pure _
  · exact prompt_bind prompt_attempt fun _ => prompt_orResolution _

/-- A nested activation is pushed with the cursor still at the invoke (R562). -/
theorem prompt_callNested (pc0 need : Nat) (call : StagedCall) (sh : Shorty) : Prompt (callNested pc0 need call sh) :=
  prompt_bind (prompt_ask (methodInfo_frame _).1 ((transacts_methodInfo _).logs nofun)) fun info c => by
    rw [handler_bind_ok (handler_get c)]
    split
    · exact .refl c
    · split
      · exact .refl c
      · cases Activation.start (info.toMethod sh) call.args with
        | error f => exact .refl c
        | ok b => exact ⟨.refl _, rfl, rfl⟩

/-! ### Endings -/

/-- The handler has left a host call outstanding, inside which the host has re-entered the engine, or has faulted. -/
def HoldsCall (c : Ctx) (r : EStateM.Result Ended Ctx Unit) : Prop :=
  (resultCtx r).ports.calls.length = c.ports.calls.length + 1 ∨ ∃ f d, r = .error (.faulted f) d

/-- How a handler of `i` ends that starts at `c`: it has logged checked transactions, and a host call that is not checked
only where it holds it; no outstanding host call has been answered; a fault has left the cursor at pc0, past it only in
monitor-exit (R457). -/
structure EndsPrompt (i : Instr) (c : Ctx) (r : EStateM.Result Ended Ctx Unit) : Prop where
  log : c.ports.Logged (HoldsCall c r) (resultCtx r).ports
  calls : c.ports.calls.length ≤ (resultCtx r).ports.calls.length
  cursor : ∀ f d, r = .error (.faulted f) d → d.top.pc = c.top.pc ∨ d.top.pc = c.top.pc + 1 ∧ ∃ x, i = .monitorExit x

/-- A handler of `i` that ends so wherever it starts. -/
def Prompts (i : Instr) (h : Handler Unit) : Prop := ∀ c : Ctx, EndsPrompt i c (h c)

section
variable {α : Type} {i : Instr} {c d : Ctx} {r : EStateM.Result Ended Ctx Unit}

/-- An ending that keeps the cursor. -/
theorem Ctx.After.ends (h : c.After (resultCtx r)) : EndsPrompt i c r where
  log := h.log.of_false
  calls := h.calls ▸ le_rfl
  cursor f d hr := by
    subst hr
    exact .inl h.pc

theorem EndsPrompt.after (h : EndsPrompt i d r) (part : c.After d) : EndsPrompt i c r := by
  obtain ⟨log, calls, cursor⟩ := h
  rw [HoldsCall, part.calls] at log
  rw [part.calls] at calls
  rw [part.pc] at cursor
  exact ⟨part.log.of_false.trans log, calls, cursor⟩

/-- An ending that completes with the ports as they were. -/
theorem endsPrompt_ok {u : Unit} (ports : d.ports = c.ports) : EndsPrompt i c (.ok u d) where
  log := .of_issued_eq (congrArg Ports.issued ports)
  calls := by rw [resultCtx, ports]
  cursor _ _ h := by cases h

theorem Prompt.prompts {x : Handler Unit} (h : Prompt x) : Prompts i x := fun c => (h c).ends

theorem prompts_bind {x : Handler α} {f : α → Handler Unit} (hx : Prompt x) (hf : ∀ v, Prompts i (f v)) :
    Prompts i (x >>= f) := fun c => by
  have h := hx c
  cases hr : x c with
  | ok v d =>
    rw [hr] at h
    rw [handler_bind_ok hr]
    exact (hf v d).after h
  | error e d =>
    rw [hr] at h
    rw [handler_bind_error hr]
    exact Ctx.After.ends h

theorem prompts_ite {q : Prop} [Decidable q] {x y : Handler Unit} (hx : Prompts i x) (hy : Prompts i y) :
    Prompts i (if q then x else y) := by
  split
  · exact hx
  · exact hy

theorem prompts_raise (x : Cause) : Prompts i (raise x) := (prompt_raise x).prompts

theorem prompts_faultWith (f : EngineFault) : Prompts i (faultWith f) := (prompt_faultWith f).prompts

/-- A last change of the top activation: an advance, a return, a result in RV. -/
theorem prompts_set {g : Activation → Activation} : Prompts i (getTop >>= fun a => setTop (g a)) :=
  fun _ => endsPrompt_ok rfl

theorem prompts_advance (n : Nat) : Prompts i (advance n) := prompts_set

/-- A change of the top activation that may fault instead: a jump, a write. -/
theorem prompts_update {g : Activation → Checked Activation} :
    Prompts i (getTop >>= fun a => checked (g a) >>= fun b => setTop b) :=
  prompts_bind prompt_getTop fun _ => prompts_bind (prompt_checked _) fun _ _ => endsPrompt_ok rfl

theorem prompts_jump (off : Int) : Prompts i (jump off) := prompts_update

/-- A write faults before it changes anything, and what closes the handler does not fault. -/
theorem prompts_write_then {g : Activation → Checked Activation} {k : Handler Unit} (hk : Closes k) :
    Prompts i ((getTop >>= fun a => checked (g a) >>= fun b => setTop b) >>= fun _ => k) := fun c => by
  cases hg : g c.top with
  | error f =>
    have fault : (getTop >>= fun a => checked (g a) >>= fun b => setTop b) c = .error (.faulted f) c := by simp [hg]
    rw [handler_bind_error fault]
    exact Ctx.After.ends (.refl c)
  | ok b =>
    have written : (getTop >>= fun a => checked (g a) >>= fun b => setTop b) c = .ok () { c with top := b } := by simp [hg]
    obtain ⟨a, closed, -⟩ := hk { c with top := b }
    rw [handler_bind_ok written, closed]
    exact endsPrompt_ok rfl

/-- The end of most instructions: a register is written and the cursor advances. -/
theorem prompts_write {g : Activation → Checked Activation} {n : Nat} :
    Prompts i ((getTop >>= fun a => checked (g a) >>= fun b => setTop b) >>= fun _ => advance n) :=
  prompts_write_then (closes_advance n)

/-- monitor-exit advances first, so it faults past its unit (R457). -/
theorem prompts_advance_then {aa : BitVec 8} {x : Handler Unit} (hi : i = .monitorExit aa) (hx : Prompt x) :
    Prompts i (advance 1 >>= fun _ => x) := fun c => by
  obtain ⟨log, calls, pc⟩ := hx { c with top := c.top.advance 1 }
  rw [handler_bind_ok (advance_run 1 c)]
  refine ⟨log.of_false, calls ▸ le_rfl, fun f d hr => .inr ⟨?_, aa, hi⟩⟩
  rw [hr] at pc
  exact pc

/-- ST and INV as an invoke sets them on its way. -/
theorem prompts_restage_then {st : Activation → Status} {inv : Inv} {k : Activation → Handler Unit}
    (hk : ∀ a, Prompts i (k a)) :
    Prompts i (getTop >>= fun a => setTop { a with st := st a, inv := inv } >>= fun _ => k a) := fun c =>
  (hk c.top { c with top := { c.top with st := st c.top, inv := inv } }).after ⟨.refl _, rfl, rfl⟩

end

/-! ### A host call that goes on (R563, R604, R705) -/

/-- How the wait for a host call ends: the answer has been checked; or the host has re-entered the engine, which has logged
the start of the chain, and the call is held, or the chain has faulted. -/
structure EndsWait (c : Ctx) (r : EStateM.Result Ended Ctx Unit) : Prop where
  log : (resultCtx r).ports.Inquired c.ports.issued ∨ HoldsCall c r ∧
    ∃ m q, Ports.Inquired (.methodInfo m :: c.ports.issued) q ∧ q.Logged False (resultCtx r).ports
  calls : c.ports.calls.length ≤ (resultCtx r).ports.calls.length
  cursor : ∀ f d, r = .error (.faulted f) d → d.top.pc = c.top.pc

/-- Where the wait does not fault, the cursor is not asked for. -/
theorem endsWait_checked {c : Ctx} {r : EStateM.Result Ended Ctx Unit}
    (asked : (resultCtx r).ports.Inquired c.ports.issued) (kept : (resultCtx r).ports.calls = c.ports.calls)
    (noFault : ∀ f d, r ≠ .error (.faulted f) d) : EndsWait c r :=
  ⟨.inl asked, by rw [kept], fun f d h => absurd h (noFault f d)⟩

theorem awaitCall_endsWait (call : StagedCall) (c : Ctx) : EndsWait c (awaitCall call c) := by
  have checks := callAnswer_inquires c.ports
  obtain ⟨-, -, -, kept⟩ := callAnswer_quiet c.ports
  rcases answer : callAnswer c.ports with ⟨reply, p⟩
  rw [answer] at checks kept
  rcases checks with ⟨⟨entry, rfl⟩, unlogged⟩ | ⟨answered, asked⟩
  · obtain ⟨q, asked, started⟩ := transacts_startChain c.params.maxDepth c.depth entry p
    obtain ⟨-, -, -, still⟩ := quiet_startChain c.params.maxDepth c.depth entry p
    rcases chain : startChain c.params.maxDepth c.depth entry p with ⟨first, p'⟩
    rw [chain] at started still
    rw [unlogged] at asked
    dsimp only at kept still
    cases first with
    | ok b =>
      rw [awaitCall_reenters answer chain]
      exact ⟨.inr ⟨.inl (by simp [resultCtx, still, kept]), _, q, asked, started⟩, by simp [resultCtx, still, kept],
        fun _ _ h => by cases h⟩
    | error f =>
      rw [awaitCall_faults answer chain]
      exact ⟨.inr ⟨.inr ⟨f, _, rfl⟩, _, q, asked, started⟩, by simp [resultCtx, still, kept],
        fun _ _ h => by cases h; rfl⟩
  · cases reply with
    | reenters entry => exact absurd rfl (answered entry)
    | returns bits =>
      rw [awaitCall_returns answer]
      exact endsWait_checked asked kept fun _ _ h => by cases h
    | fails e =>
      rw [awaitCall_fails answer]
      exact endsWait_checked asked kept fun _ _ h => by cases h

/-- A wait that ends has logged something, all of it checked. -/
theorem EndsWait.logged {c : Ctx} {r : EStateM.Result Ended Ctx Unit} (h : EndsWait c r) :
    c.ports.Logged False (resultCtx r).ports ∧ c.ports.issued.length < (resultCtx r).ports.issued.length := by
  rcases h.log with asked | ⟨-, m, q, asked, started⟩
  · exact ⟨asked.logged, asked.length_lt⟩
  · have grown := asked.length_lt
    have further := started.length_le
    exact ⟨(asked.logged_transaction nofun).trans started, by simp only [List.length_cons] at grown; omega⟩

end Sys2Proof.Machine
end

section
/-! What each handler logs and where it faults, and one table over the instructions (spec/41_move_const.md to
spec/46_invoke.md). -/

namespace Sys2Proof.Machine

section
variable {i : Instr}

/-! ### Moves, integers and floating point -/

theorem prompts_takeCaught (dst : Nat) : Prompts i (takeCaught dst) := prompts_bind prompt_getTop fun a => by
  cases a.exc with
  | none => exact prompts_faultWith _
  | some h => exact prompts_write_then closes_clearExc

theorem prompts_intDivide (dst l r n : Nat) (f : Word32 → Word32 → Word32) : Prompts i (intDivide dst l r n f) :=
  prompts_bind prompt_view fun _ => prompts_bind prompt_view fun _ => prompts_ite (prompts_raise _) prompts_write
theorem prompts_intLiteralDivide (dst src : Nat) (lit : Word32) (f : Word32 → Word32 → Word32) :
    Prompts i (intLiteralDivide dst src lit f) :=
  prompts_bind prompt_view fun _ => prompts_ite (prompts_raise _) prompts_write
theorem prompts_longDivide (dst l r n : Nat) (f : Word64 → Word64 → Word64) : Prompts i (longDivide dst l r n f) :=
  prompts_bind prompt_view fun _ => prompts_bind prompt_view fun _ => prompts_ite (prompts_raise _) prompts_write

/-- A draw of a NaN's bits is no transaction (R352). -/
theorem prompt_produce32 (r : Option Nat) : Prompt (ask (produce32 r)) := prompt_ask (quiet_produce32 r) (logs_produce32 r)
theorem prompt_produce64 (r : Option Nat) : Prompt (ask (produce64 r)) := prompt_ask (quiet_produce64 r) (logs_produce64 r)

/-! ### Control flow -/

theorem prompts_packedSwitchOn (src : Nat) (off : Word32) : Prompts i (packedSwitchOn src off) :=
  prompts_bind prompt_view fun _ => prompts_bind prompt_getTop fun _ => prompts_bind (prompt_checkMagic _ _) fun _ =>
    prompts_bind prompt_view fun _ => prompts_bind prompt_view fun _ =>
      prompts_ite (prompts_bind prompt_view fun _ => prompts_jump _) (prompts_advance 3)

theorem prompts_sparseSwitchOn (src : Nat) (off : Word32) : Prompts i (sparseSwitchOn src off) :=
  prompts_bind prompt_view fun v => prompts_bind prompt_getTop fun _ => prompts_bind (prompt_checkMagic _ _) fun _ =>
    prompts_bind prompt_view fun _ => prompts_bind (prompt_checked _) fun keys => prompts_ite
      (by
        cases keys.idxOf? v with
        | some j => exact prompts_bind prompt_view fun _ => prompts_jump _
        | none => exact prompts_advance 3)
      (prompts_faultWith _)

theorem prompts_throwRef (src : Nat) : Prompts i (throwRef src) :=
  prompts_bind prompt_view fun _ => prompts_ite (prompts_raise _) (prompts_raise _)

theorem prompts_returnMismatch : Prompts i returnMismatch := prompts_bind prompt_getTop fun _ => prompts_faultWith _

theorem prompts_finishVoid : Prompts i finishVoid := prompts_bind prompt_getTop fun _ => by
  split
  · exact prompts_set
  · exact prompts_returnMismatch
theorem prompts_finishI32 (src : Nat) : Prompts i (finishI32 src) :=
  prompts_bind prompt_view fun _ => prompts_bind prompt_getTop fun _ => by
    split
    · exact prompts_set
    · exact prompts_returnMismatch
theorem prompts_finishI64 (src : Nat) : Prompts i (finishI64 src) :=
  prompts_bind prompt_view fun _ => prompts_bind prompt_getTop fun _ => by
    split
    · exact prompts_set
    · exact prompts_returnMismatch
theorem prompts_finishRef (src : Nat) : Prompts i (finishRef src) :=
  prompts_bind prompt_view fun _ => prompts_bind prompt_getTop fun _ => by
    split
    · exact prompts_set
    · exact prompts_returnMismatch

theorem prompts_acquireMonitor (src : Nat) : Prompts i (acquireMonitor src) :=
  prompts_bind prompt_view fun _ => prompts_bind prompt_getTop fun _ => prompts_ite
    (prompt_nullMonitor _).prompts
    (prompts_bind (prompt_ask (monitorEnterOn_frame _).1 (logs_monitorEnterOn _)) fun r => by
      cases r with
      | acquired => exact prompts_advance 1
      | fails e => exact prompts_raise _
      | unanswered => exact fun c => Ctx.After.ends (.refl c))

theorem prompts_releaseMonitor {aa : BitVec 8} (hi : i = .monitorExit aa) (src : Nat) :
    Prompts i (releaseMonitor src) :=
  prompts_bind prompt_view fun _ => prompts_bind prompt_getTop fun _ => prompts_advance_then hi
    (prompt_ite (prompt_nullMonitor _) (prompt_bind prompt_attempt fun _ => prompt_orHost _))

/-! ### Objects, arrays and fields -/

theorem prompts_lengthOf (dst src : Nat) : Prompts i (lengthOf dst src) :=
  prompts_bind prompt_view fun _ => prompts_bind (prompt_requireNonNull _ _) fun _ =>
    prompts_bind prompt_query fun _ => prompts_write
theorem prompts_allocObject (dst idx : Nat) : Prompts i (allocObject dst idx) :=
  prompts_bind (prompt_classRef _) fun _ => prompts_bind prompt_attempt fun _ =>
    prompts_bind (prompt_orHost _) fun _ => prompts_write
theorem prompts_allocArrayOf (dst src idx : Nat) : Prompts i (allocArrayOf dst src idx) :=
  prompts_bind prompt_view fun _ => prompts_bind (prompt_classRef _) fun _ => prompts_ite (prompts_raise _)
    (prompts_bind prompt_attempt fun _ => prompts_bind (prompt_orResolution _) fun _ => prompts_write)
theorem prompts_castCheck (src idx : Nat) : Prompts i (castCheck src idx) :=
  prompts_bind prompt_view fun _ => prompts_bind (prompt_classRef _) fun _ =>
    prompts_bind (prompt_instanceOrNull _ _ _) fun _ => prompts_ite (prompts_advance 2)
      (prompts_bind prompt_query fun _ => prompts_raise _)
theorem prompts_instanceTest (dst src idx : Nat) : Prompts i (instanceTest dst src idx) :=
  prompts_bind prompt_view fun _ => prompts_bind (prompt_classRef _) fun _ =>
    prompts_bind (prompt_instanceOrNull _ _ _) fun _ => prompts_write

theorem prompts_fillFromTable (src : Nat) (off : Word32) : Prompts i (fillFromTable src off) :=
  prompts_bind prompt_view fun _ => prompts_bind (prompt_requireNonNull _ _) fun _ =>
    prompts_bind prompt_getTop fun _ => prompts_bind (prompt_checkMagic _ _) fun _ =>
      prompts_bind prompt_view fun _ => prompts_ite
        (prompts_bind prompt_view fun _ => prompts_bind prompt_query fun _ => prompts_ite (prompts_raise _)
          (prompts_bind (prompt_checked _) fun _ => prompts_bind prompt_attempt fun _ =>
            prompts_bind (prompt_orHost _) fun _ => prompts_advance 3))
        (prompts_faultWith _)

theorem prompts_filledArray (idx : Nat) (regs : List Nat) : Prompts i (filledArray idx regs) :=
  prompts_bind prompt_query fun _ => prompts_bind (prompt_readFilled _ _) fun _ =>
    prompts_bind prompt_attempt fun _ => prompts_bind (prompt_orResolution _) fun _ =>
      prompts_bind prompt_attempt fun _ => prompts_bind (prompt_orHost _) fun _ => prompts_set

theorem prompts_filledPacked (count : BitVec 4) (idx : Nat) (c d e f g : BitVec 4) :
    Prompts i (filledPacked count idx c d e f g) :=
  prompts_bind (prompt_checkCount _) fun _ => prompts_filledArray _ _

theorem prompts_putElement32 (k : Code32) (src arrReg idxReg : Nat) : Prompts i (putElement32 k src arrReg idxReg) :=
  prompts_bind prompt_view fun _ => prompts_bind prompt_view fun _ => prompts_bind prompt_view fun _ =>
    prompts_bind (prompt_checkElement _ _) fun _ => prompts_bind prompt_send fun _ => prompts_advance 2
theorem prompts_putElement64 (src arrReg idxReg : Nat) : Prompts i (putElement64 src arrReg idxReg) :=
  prompts_bind prompt_view fun _ => prompts_bind prompt_view fun _ => prompts_bind prompt_view fun _ =>
    prompts_bind (prompt_checkElement _ _) fun _ => prompts_bind prompt_send fun _ => prompts_advance 2
theorem prompts_putElementRef (src arrReg idxReg : Nat) : Prompts i (putElementRef src arrReg idxReg) :=
  prompts_bind prompt_view fun _ => prompts_bind prompt_view fun _ => prompts_bind prompt_view fun _ =>
    prompts_bind (prompt_checkElement _ _) fun _ => prompts_bind prompt_attempt fun _ =>
      prompts_bind (prompt_orHost _) fun _ => prompts_advance 2

theorem prompts_writeField (dst : Nat) (v : TypedValue) : Prompts i (writeField dst v >>= fun _ => advance 2) := by
  unfold writeField
  split
  · exact prompts_write
  · exact prompts_write
  · exact prompts_write
  · exact prompts_write

theorem prompts_getField (dst idx : Nat) (inst : Handle) : Prompts i (getField dst idx inst) :=
  prompts_bind prompt_attempt fun _ => prompts_bind (prompt_orResolution _) fun _ => prompts_writeField _ _
theorem prompts_putField (idx : Nat) (inst : Handle) (v : TypedValue) : Prompts i (putField idx inst v) :=
  prompts_bind prompt_attempt fun _ => prompts_bind (prompt_orResolution _) fun _ => prompts_advance 2
theorem prompts_getInstanceField (dst objReg idx : Nat) : Prompts i (getInstanceField dst objReg idx) :=
  prompts_bind prompt_view fun _ => prompts_bind (prompt_requireNonNull _ _) fun _ => prompts_getField _ _ _
theorem prompts_putInstanceField (t : TypeCode) (src objReg idx : Nat) : Prompts i (putInstanceField t src objReg idx) :=
  prompts_bind prompt_view fun _ => prompts_bind prompt_view fun _ =>
    prompts_bind (prompt_requireNonNull _ _) fun _ => prompts_putField _ _ _
theorem prompts_putStaticField (t : TypeCode) (src idx : Nat) : Prompts i (putStaticField t src idx) :=
  prompts_bind prompt_view fun _ => prompts_putField _ _ _

/-! ### Invokes -/

/-- A host call is checked when it is answered; when the host re-enters the engine first, the log goes on with the start of
the chain (R563, R604). -/
theorem prompts_callHost (call : StagedCall) (recv : Option Handle) (sh : Shorty) : Prompts i (callHost call recv sh) :=
  fun c => by
    rw [callHost_run]
    obtain ⟨log, calls, cursor⟩ := awaitCall_endsWait call (c.hostCalling call
      { c.ports with issued := .call call.kind call.target recv call.args sh :: c.ports.issued })
    refine ⟨?_, calls, fun f d h => .inl (cursor f d h)⟩
    rcases log with asked | ⟨held, m, q, asked, started⟩
    · exact Ports.Inquired.logged_transaction asked nofun
    · exact (Ports.Inquired.logged_reentry asked held).trans started.of_false

theorem prompts_invoke (kind : InvokeKind) (form : ArgForm) (idx : Nat) (regs : List Nat) :
    Prompts i (invoke kind form idx regs) :=
  prompts_restage_then (st := Activation.st) fun _ => prompts_bind prompt_attempt fun _ =>
    prompts_bind (prompt_orResolution _) fun _ => prompts_bind prompt_query fun _ =>
      prompts_ite (prompts_faultWith _) <| prompts_bind (prompt_readReceiver _ _) fun _ =>
        prompts_bind (prompt_chooseTarget _ _ _) fun _ => prompts_bind (prompt_checked _) fun _ =>
          prompts_bind prompt_query fun _ =>
            prompts_ite (prompt_callNested _ _ _ _).prompts (prompts_callHost _ _ _)

theorem prompts_invokePacked (kind : InvokeKind) (count : BitVec 4) (idx : Nat) (c d e f g : BitVec 4) :
    Prompts i (invokePacked kind count idx c d e f g) :=
  prompts_bind (prompt_checkCount _) fun _ => prompts_invoke _ _ _ _

end

/-! ### The table -/

/-- Every instruction runs a handler that has its transactions checked, and that moves the cursor before a fault only in
monitor-exit. -/
theorem exec_runs_prompt (i : Instr) : ∃ h, (∀ s, exec i s = runTop h s) ∧ Prompts i h := by
  cases i with
  | nop => exact ⟨_, fun _ => rfl, prompts_advance _⟩
  | const4 | const16 | const32 | constHigh16 | constWide16 | constWide32 | constWide | constWideHigh16 =>
    exact ⟨_, fun _ => rfl, prompts_write⟩
  | move | moveFrom16 | move16 | moveWide | moveWideFrom16 | moveWide16 | moveObject | moveObjectFrom16 | moveObject16
    | negInt | notInt | negLong | notLong | negFloat | negDouble | intToByte | intToChar | intToShort | intToLong
    | intToFloat | intToDouble | longToInt | longToFloat | longToDouble | floatToInt | floatToLong | doubleToInt
    | doubleToLong | addIntLit16 | rsubInt | mulIntLit16 | andIntLit16 | orIntLit16 | xorIntLit16 | addIntLit8
    | rsubIntLit8 | mulIntLit8 | andIntLit8 | orIntLit8 | xorIntLit8 | shlIntLit8 | shrIntLit8 | ushrIntLit8 =>
    exact ⟨_, fun _ => rfl, prompts_bind prompt_view fun _ => prompts_write⟩
  | cmplFloat | cmpgFloat | cmplDouble | cmpgDouble | cmpLong | addInt | subInt | mulInt | andInt | orInt | xorInt
    | shlInt | shrInt | ushrInt | addInt2addr | subInt2addr | mulInt2addr | andInt2addr | orInt2addr | xorInt2addr
    | shlInt2addr | shrInt2addr | ushrInt2addr | addLong | subLong | mulLong | andLong | orLong | xorLong | shlLong
    | shrLong | ushrLong | addLong2addr | subLong2addr | mulLong2addr | andLong2addr | orLong2addr | xorLong2addr
    | shlLong2addr | shrLong2addr | ushrLong2addr =>
    exact ⟨_, fun _ => rfl, prompts_bind prompt_view fun _ => prompts_bind prompt_view fun _ => prompts_write⟩
  | moveResult | moveResultWide | moveResultObject =>
    exact ⟨_, fun _ => rfl, prompts_bind prompt_readRV fun _ => prompts_write⟩
  | moveException => exact ⟨_, fun _ => rfl, prompts_takeCaught _⟩
  | returnVoid => exact ⟨_, fun _ => rfl, prompts_finishVoid⟩
  | returnVal => exact ⟨_, fun _ => rfl, prompts_finishI32 _⟩
  | returnWide => exact ⟨_, fun _ => rfl, prompts_finishI64 _⟩
  | returnObject => exact ⟨_, fun _ => rfl, prompts_finishRef _⟩
  | constString | constStringJumbo => exact ⟨_, fun _ => rfl, prompts_bind prompt_query fun _ => prompts_write⟩
  | constClass => exact ⟨_, fun _ => rfl, prompts_bind (prompt_classRef _) fun _ => prompts_write⟩
  | monitorEnter => exact ⟨_, fun _ => rfl, prompts_acquireMonitor _⟩
  | monitorExit => exact ⟨_, fun _ => rfl, prompts_releaseMonitor rfl _⟩
  | checkCast => exact ⟨_, fun _ => rfl, prompts_castCheck _ _⟩
  | instanceOf => exact ⟨_, fun _ => rfl, prompts_instanceTest _ _ _⟩
  | arrayLength => exact ⟨_, fun _ => rfl, prompts_lengthOf _ _⟩
  | newInstance => exact ⟨_, fun _ => rfl, prompts_allocObject _ _⟩
  | newArray => exact ⟨_, fun _ => rfl, prompts_allocArrayOf _ _ _⟩
  | filledNewArray => exact ⟨_, fun _ => rfl, prompts_filledPacked _ _ _ _ _ _ _⟩
  | filledNewArrayRange => exact ⟨_, fun _ => rfl, prompts_filledArray _ _⟩
  | fillArrayData => exact ⟨_, fun _ => rfl, prompts_fillFromTable _ _⟩
  | throwObj => exact ⟨_, fun _ => rfl, prompts_throwRef _⟩
  | goto | goto16 | goto32 => exact ⟨_, fun _ => rfl, prompts_jump _⟩
  | packedSwitch => exact ⟨_, fun _ => rfl, prompts_packedSwitchOn _ _⟩
  | sparseSwitch => exact ⟨_, fun _ => rfl, prompts_sparseSwitchOn _ _⟩
  | ifEq | ifNe | ifLt | ifGe | ifGt | ifLe =>
    exact ⟨_, fun _ => rfl, prompts_bind prompt_view fun _ => prompts_bind prompt_view fun _ =>
      prompts_ite (prompts_jump _) (prompts_advance 2)⟩
  | ifEqz | ifNez | ifLtz | ifGez | ifGtz | ifLez =>
    exact ⟨_, fun _ => rfl, prompts_bind prompt_view fun _ => prompts_ite (prompts_jump _) (prompts_advance 2)⟩
  | unused3e | unused3f | unused40 | unused41 | unused42 | unused43 | unused73 | unused79 | unused7a | unusedE3
    | unusedE4 | unusedE5 | unusedE6 | unusedE7 | unusedE8 | unusedE9 | unusedEa | unusedEb | unusedEc
    | unusedEd | unusedEe | unusedEf | unusedF0 | unusedF1 | unusedF2 | unusedF3 | unusedF4 | unusedF5
    | unusedF6 | unusedF7 | unusedF8 | unusedF9 | unusedFa | unusedFb | unusedFc | unusedFd | unusedFe
    | unusedFf => exact ⟨_, fun _ => rfl, prompts_bind prompt_getTop fun _ => prompts_faultWith _⟩
  | aget | agetBoolean | agetByte | agetChar | agetShort | agetWide | agetObject =>
    exact ⟨_, fun _ => rfl, prompts_bind (prompt_getElement _ _ _) fun _ => prompts_write⟩
  | aput | aputBoolean | aputByte | aputChar | aputShort => exact ⟨_, fun _ => rfl, prompts_putElement32 _ _ _ _⟩
  | aputWide => exact ⟨_, fun _ => rfl, prompts_putElement64 _ _ _⟩
  | aputObject => exact ⟨_, fun _ => rfl, prompts_putElementRef _ _ _⟩
  | iget | igetWide | igetObject | igetBoolean | igetByte | igetChar | igetShort =>
    exact ⟨_, fun _ => rfl, prompts_getInstanceField _ _ _⟩
  | iput | iputWide | iputObject | iputBoolean | iputByte | iputChar | iputShort =>
    exact ⟨_, fun _ => rfl, prompts_putInstanceField _ _ _ _⟩
  | sget | sgetWide | sgetObject | sgetBoolean | sgetByte | sgetChar | sgetShort =>
    exact ⟨_, fun _ => rfl, prompts_getField _ _ _⟩
  | sput | sputWide | sputObject | sputBoolean | sputByte | sputChar | sputShort =>
    exact ⟨_, fun _ => rfl, prompts_putStaticField _ _ _⟩
  | invokeVirtual | invokeSuper | invokeDirect | invokeStatic | invokeInterface =>
    exact ⟨_, fun _ => rfl, prompts_invokePacked _ _ _ _ _ _ _ _⟩
  | invokeVirtualRange | invokeSuperRange | invokeDirectRange | invokeStaticRange | invokeInterfaceRange =>
    exact ⟨_, fun _ => rfl, prompts_invoke _ _ _ _⟩
  | floatToDouble =>
    exact ⟨_, fun _ => rfl, prompts_bind prompt_view fun _ => prompts_bind (prompt_produce64 _) fun _ => prompts_write⟩
  | doubleToFloat =>
    exact ⟨_, fun _ => rfl, prompts_bind prompt_view fun _ => prompts_bind (prompt_produce32 _) fun _ => prompts_write⟩
  | divInt | remInt | divInt2addr | remInt2addr => exact ⟨_, fun _ => rfl, prompts_intDivide _ _ _ _ _⟩
  | divIntLit16 | remIntLit16 | divIntLit8 | remIntLit8 => exact ⟨_, fun _ => rfl, prompts_intLiteralDivide _ _ _ _⟩
  | divLong | remLong | divLong2addr | remLong2addr => exact ⟨_, fun _ => rfl, prompts_longDivide _ _ _ _ _⟩
  | addFloat | subFloat | mulFloat | divFloat | remFloat | addFloat2addr | subFloat2addr | mulFloat2addr
    | divFloat2addr | remFloat2addr =>
    exact ⟨_, fun _ => rfl, prompts_bind prompt_view fun _ => prompts_bind prompt_view fun _ =>
      prompts_bind (prompt_produce32 _) fun _ => prompts_write⟩
  | addDouble | subDouble | mulDouble | divDouble | remDouble | addDouble2addr | subDouble2addr | mulDouble2addr
    | divDouble2addr | remDouble2addr =>
    exact ⟨_, fun _ => rfl, prompts_bind prompt_view fun _ => prompts_bind prompt_view fun _ =>
      prompts_bind (prompt_produce64 _) fun _ => prompts_write⟩

end Sys2Proof.Machine
end

section
/-! Faults write nothing, and the check after every transaction of an instruction and of a step (spec/60_exceptions.md R604,
R611, R631). -/

namespace Sys2Proof.Machine

/-- Settles O59: the cursor is where the faulting handler has left it, and nothing else is the handler's. -/
theorem faultsWriteNothing : Obligations.FaultsWriteNothing := by
  intro i s t a rest f hs running h hf
  obtain ⟨handler, runs, prompts⟩ := exec_runs_prompt i
  rw [runs] at h
  rcases runTop_cases (h := handler) hs with ⟨c, -, hr⟩ | ⟨e, c, -, hr⟩ | ⟨g, c, hc, hr⟩ | ⟨c, -, hr⟩ <;>
    rw [hr] at h <;> cases h
  case inl => exact nomatch running.symm.trans hf
  case inr.inl => exact nomatch running.symm.trans hf
  case inr.inr.inl =>
    cases hf
    refine ⟨rfl, ((prompts _).cursor _ c hc).imp (fun pc => ?atStart) fun ⟨pc, exit⟩ => ⟨?pastUnit, exit⟩⟩
    case atStart => rw [State.abort_stack, pc, Ctx.enter_top, hs]
    case pastUnit => rw [State.abort_stack, pc, Ctx.enter_top]

/-! ### What a step logs -/

/-- Between the two states a host call has become outstanding, or the engine has stopped. -/
def State.HoldsCall (s t : State) : Prop :=
  t.ports.calls.length = s.ports.calls.length + 1 ∨ ∃ f, t.fault = some f

/-- What stands at the ports and in FAULT after a handler that ended with `r` on the top activation. -/
structure State.After (t : State) (r : EStateM.Result Ended Ctx Unit) : Prop where
  issued : t.ports.issued = (resultCtx r).ports.issued
  calls : t.ports.calls = (resultCtx r).ports.calls
  hostExc : t.ports.hostExc = (resultCtx r).ports.hostExc
  fault : ∀ f d, r = .error (.faulted f) d → t.fault = some f

/-- How the log of a step has grown (R604): by checked transactions, the last of them the answer to a host call where one
was answered; or the exception that ends the run has been given to the host last (R631). -/
inductive LeavesLog (s t : State) : Prop where
  | checked (log : s.ports.Logged (s.HoldsCall t) t.ports) (clear : s.ports.hostExc = none → t.ports.hostExc = none)
      (answered : t.ports.calls.length < s.ports.calls.length → s.ports.issued.length < t.ports.issued.length)
  | ends (e : Handle) (older : List Request) (queried : Queried (s.HoldsCall t) older)
      (issued : t.ports.issued = .throwHandle e :: older ++ s.ports.issued) (stack : t.stack = [])
      (calls : t.ports.calls = s.ports.calls)

section
variable {s t : State} {a : Activation} {rest : List Activation}

theorem runTop_after {x : Handler Unit} (hs : s.stack = a :: rest) (h : runTop x s = .next t) :
    t.After (x (Ctx.enter s a rest)) := by
  rcases runTop_cases (h := x) hs with ⟨c, hc, hr⟩ | ⟨e, c, hc, hr⟩ | ⟨f, c, hc, hr⟩ | ⟨c, hc, hr⟩ <;>
    rw [hr] at h <;> cases h <;> rw [hc]
  case inl => exact ⟨rfl, rfl, rfl, fun _ _ h => by cases h⟩
  case inr.inl => exact ⟨rfl, rfl, rfl, fun _ _ h => by cases h⟩
  case inr.inr.inl => exact ⟨rfl, rfl, rfl, fun _ _ h => by cases h; rfl⟩

/-- An instruction checks its transactions, answers no outstanding host call, and leaves what was clear clear. -/
theorem exec_logs {i : Instr} (hs : s.stack = a :: rest) (h : exec i s = .next t) :
    s.ports.Logged (s.HoldsCall t) t.ports ∧ s.ports.calls.length ≤ t.ports.calls.length ∧
      (s.ports.hostExc = none → t.ports.hostExc = none) := by
  have clear : s.ports.hostExc = none → t.ports.hostExc = none := by
    obtain ⟨handler, runs, sound⟩ := exec_runs_sound i
    rw [runs] at h
    rw [(runTop_after hs h).hostExc]
    exact (sound (Ctx.enter s a rest)).frame.clear
  obtain ⟨handler, runs, prompts⟩ := exec_runs_prompt i
  rw [runs] at h
  obtain ⟨log, calls, -⟩ := prompts (Ctx.enter s a rest)
  have left := runTop_after hs h
  rw [HoldsCall, ← left.calls] at log
  rw [← left.calls] at calls
  obtain ⟨new, queried, issued⟩ := log
  refine ⟨⟨new, queried.mono (Or.imp_right ?_), left.issued.trans issued⟩, calls, clear⟩
  exact fun ⟨f, d, hr⟩ => ⟨f, left.fault f d hr⟩

/-- A step that answers no host call and logs nothing but checked transactions. -/
theorem leavesLog_of_calls_eq (log : s.ports.Logged False t.ports) (calls : t.ports.calls = s.ports.calls)
    (clear : s.ports.hostExc = none → t.ports.hostExc = none) : LeavesLog s t :=
  .checked log.of_false clear fun fewer => absurd (congrArg List.length calls) fewer.ne

/-! ### The steps that run no instruction -/

theorem idleStep_leavesLog (s : State) : LeavesLog s (idleStep s) := by
  unfold idleStep
  split
  · exact leavesLog_of_calls_eq (.refl _) rfl id
  · rename_i call later _
    have logs := (transacts_startChain s.params.maxDepth 0 call).logs nofun
      { s.ports with entries := later, hostExc := none }
    obtain ⟨clear, -, -, calls⟩ :=
      quiet_startChain s.params.maxDepth 0 call { s.ports with entries := later, hostExc := none }
    unfold boot
    split <;> rename_i hb <;> rw [hb] at logs clear calls <;>
      exact leavesLog_of_calls_eq logs calls fun _ => clear rfl

/-- The newest outstanding host call goes on after the result of the chain inside it (R563, R705). -/
theorem resumed_leavesLog {r : ReturnValue} {b : Activation} {below : List Activation} {call : StagedCall}
    {calls : List StagedCall} (h : runTop (awaitCall call) (s.resumed r b below calls) = .next t) : LeavesLog s t := by
  have left := runTop_after (rest := below) rfl h
  obtain ⟨logged, grown⟩ := (awaitCall_endsWait call (Ctx.enter (s.resumed r b below calls) b below)).logged
  have clear := (calls_awaitCall call (Ctx.enter (s.resumed r b below calls) b below)).frame.clear
  obtain ⟨new, queried, issued⟩ := logged
  rw [← left.issued] at grown
  rw [← left.hostExc] at clear
  exact .checked ⟨new, queried.mono False.elim, left.issued.trans issued⟩ clear fun _ => grown

section
variable {b : Activation} {below : List Activation} {call : StagedCall} {calls : List StagedCall}

/-- A result that goes to the host inside an outstanding call. -/
theorem deliver_resumes {r : ReturnValue} (host : hostStarted (b :: below) = true)
    (outstanding : s.ports.calls = call :: calls) :
    deliver s r (b :: below) = runTop (awaitCall call) (s.resumed r b below calls) := by
  rw [deliver, if_pos host]
  exact chainEnded_call (.ok ()) rfl outstanding

/-- An exception that goes to the host inside an outstanding call is that call's failure (R631, R705). -/
theorem propagate_fails {e : Handle} (host : hostStarted (b :: below) = true)
    (outstanding : s.ports.calls = call :: calls) :
    propagate s e (b :: below) = raises s b below b.pc e { s.ports with
      hostExc := none, delivered := some (.raised e), calls := calls,
      issued := .exceptionClear :: .exceptionOccurred :: .throwHandle e :: s.ports.issued } := by
  rw [propagate, if_pos host]
  refine Eq.trans (chainEnded_call (.fails e) rfl outstanding) ?_
  exact runTop_raised rfl (resumeCall_fails rfl)

end

theorem deliver_leavesLog {r : ReturnValue} (h : deliver s r rest = .next t) : LeavesLog s t := by
  by_cases host : hostStarted rest = true
  · cases rest with
    | nil =>
      cases h
      exact leavesLog_of_calls_eq (.refl _) rfl id
    | cons b below =>
      cases outstanding : s.ports.calls with
      | nil => simp [deliver, host, chainEnded, outstanding] at h
      | cons call calls =>
        rw [deliver_resumes host outstanding] at h
        exact resumed_leavesLog h
  · rw [deliver, if_neg host] at h
    cases h
    exact leavesLog_of_calls_eq (.refl _) rfl id

/-- An exception that leaves a chain goes to the caller, to the host call that started the chain, or out of the engine. -/
theorem propagate_leavesLog {e : Handle} (h : propagate s e rest = .next t) : LeavesLog s t := by
  by_cases host : hostStarted rest = true
  · cases rest with
    | nil =>
      cases h
      exact .ends e [] .nil rfl rfl rfl
    | cons b below =>
      cases outstanding : s.ports.calls with
      | nil => simp [propagate, host, chainEnded, hostThrow, StateT.run, outstanding] at h
      | cons call calls =>
        rw [propagate_fails host outstanding] at h
        cases h
        exact .checked (Ports.Inquired.logged_transaction (x := .throwHandle e) (.inr rfl) nofun) (fun _ => rfl)
          fun _ => by simp only [List.length_cons]; omega
  · rw [propagate, if_neg host] at h
    cases h
    exact leavesLog_of_calls_eq (.refl _) rfl id

/-- A step whose transactions come after checked ones. -/
theorem LeavesLog.after {p : Ports} (log : s.ports.Logged False p) (calls : p.calls = s.ports.calls)
    (clear : s.ports.hostExc = none → p.hostExc = none) (h : LeavesLog { s with ports := p } t) : LeavesLog s t := by
  have holds : State.HoldsCall { s with ports := p } t = s.HoldsCall t := by simp only [State.HoldsCall, calls]
  cases h with
  | checked further still answered =>
    rw [holds] at further
    refine .checked (log.of_false.trans further) (still ∘ clear) fun fewer => ?_
    exact log.length_le.trans_lt (answered (calls ▸ fewer))
  | ends e older queried issued stack kept =>
    rw [holds] at queried
    obtain ⟨first, hfirst, hp⟩ := log
    refine .ends e (older ++ first) (queried.append (hfirst.mono False.elim)) ?_ stack (kept.trans calls)
    rw [issued, hp]
    simp

theorem unwind_leavesLog {e : Handle} (h : unwind s a rest e = .next t) : LeavesLog s t := by
  have logs := logs_findHandler a e s.ports
  obtain ⟨clear, -, -, calls⟩ := quiet_findHandler a e s.ports
  rcases found : a.findHandler e s.ports with ⟨target, p⟩
  rw [found] at logs clear calls
  cases target with
  | none =>
    rw [unwind_uncaught found] at h
    exact (propagate_leavesLog h).after logs calls clear
  | some target =>
    by_cases inside : 0 ≤ target ∧ target ≤ a.method.len
    · rw [unwind_resumes found inside] at h
      cases h
      exact leavesLog_of_calls_eq logs calls clear
    · rw [unwind_faults found inside] at h
      cases h
      exact leavesLog_of_calls_eq logs calls clear

/-- Every step: by what it was (R170). -/
theorem step_leavesLog (h : step s = .next t) : LeavesLog s t := by
  obtain ⟨-, stepped⟩ := step_cases h
  cases stepped with
  | idle _ next =>
    subst next
    exact idleStep_leavesLog s
  | runs a rest i hs _ _ next =>
    obtain ⟨log, calls, clear⟩ := exec_logs hs next
    exact .checked log clear fun fewer => absurd calls (Nat.not_le.2 fewer)
  | fetchFaults _ _ _ _ _ next =>
    subst next
    exact leavesLog_of_calls_eq (.refl _) rfl id
  | unwinds _ _ _ _ _ _ next => exact unwind_leavesLog next
  | delivers _ _ _ _ next => exact deliver_leavesLog next

end

/-- Settles O60: the instruction by its handler, the step by what it was. -/
theorem exceptionChecks : Obligations.ExceptionChecks := by
  refine ⟨fun i s t a rest hs h => ?instruction, fun s t h => ?step⟩
  case instruction =>
    obtain ⟨⟨new, queried, issued⟩, -, clear⟩ := exec_logs hs h
    refine ⟨clear, new, issued, fun k r hr => ?_⟩
    obtain ⟨cleared, called, asked⟩ := queried.at hr
    exact ⟨cleared, called, asked⟩
  case step =>
    cases step_leavesLog h with
    | checked log clear answered =>
      obtain ⟨new, queried, issued⟩ := log
      refine ⟨fun wasClear _ => clear wasClear, new, issued, fun fewer => ?_, fun k r hr => ?_⟩
      · refine queried.head_checks fun empty => ?_
        have grown := answered fewer
        rw [issued, empty] at grown
        exact Nat.lt_irrefl _ grown
      · obtain ⟨cleared, called, asked⟩ := queried.at hr
        exact ⟨cleared, called, fun e he => .inl (asked (by simp [he]) (by simp [he])), fun other call _ => asked other call⟩
    | ends e older queried issued stack calls =>
      refine ⟨fun _ more => absurd stack more, .throwHandle e :: older, issued,
        fun fewer => absurd (congrArg List.length calls) fewer.ne, fun k r hr => ?_⟩
      match k, hr with
      | 0, rfl => exact ⟨nofun, nofun, fun _ _ => .inr ⟨rfl, stack⟩, fun _ _ other => absurd rfl (other e)⟩
      | k + 1, hr =>
        obtain ⟨cleared, called, asked⟩ := (queried.at hr).cons (x := .throwHandle e)
        exact ⟨cleared, called, fun e he => .inl (asked (by simp [he]) (by simp [he])), fun other call _ => asked other call⟩

end Sys2Proof.Machine
end
